-- ==== Sys2Proof/Word.lean ====
section
/-! DEFINITION. The widths every layer shares (00_scope.md R5, R8). -/

namespace Sys2Proof

/-- A byte; bit 7 is its most significant bit (R8). -/
abbrev Byte := BitVec 8

/-- `DUR_W`, the width of a pulse duration in bits (R5: default 32; notes/assumptions/6.md, DESIGN CHOICE). -/
abbrev durW : Nat := 32

/-- A pulse duration in microseconds, unsigned (R5, R8, R90). -/
abbrev Duration := BitVec durW

end Sys2Proof
end

