-- ==== Sys2Proof/Config.lean ====
section
/-! DEFINITION. The implementation parameters of 00_scope.md R5, the OPEN values, and the free values. -/

namespace Sys2Proof.Config

/-- `PULSE_CAP`, most samples accepted per frame (R5, D5: default 128; notes/assumptions/6.md, DESIGN CHOICE). -/
def pulseCap : Nat := 128
/-- `FRAME_MAX`, most bytes in a frame (R5). -/
def frameMax : Nat := 16
/-- `MIN_PULSES`: a sequence with fewer samples yields no frame (R5). -/
def minPulses : Nat := 3
/-- `TH_ONE`: Zero is below it, One starts at it (R5). -/
def thOne : Nat := 900
/-- `TH_SYNC`: One is below it, Sync starts at it (R5). -/
def thSync : Nat := 2000
/-- `TH_NOISE`: Sync is below it, Noise starts at it (R5). -/
def thNoise : Nat := 5000
/-- `TH_GAP`: Gap is strictly above it (R5). -/
def thGap : Nat := 200000
/-- `LEAD`, the byte every delivered frame starts with (R5). -/
def lead : Byte := 0x41
/-- `T_PRE`, the pre-send delay (R5). -/
def tPre : Nat := 5000
/-- `T_SYNC_A`, active time of the sync pulse (R5). -/
def tSyncA : Nat := 2400
/-- `T_ONE_A`, active time of a one bit (R5). -/
def tOneA : Nat := 1200
/-- `T_ZERO_A`, active time of a zero bit (R5). -/
def tZeroA : Nat := 600
/-- `T_IDLE`, the idle delimiter after the sync pulse and after every bit pulse (R5). -/
def tIdle : Nat := 600
/-- `T_SETTLE`, the settle delay after a command (R5). -/
def tSettle : Nat := 2000
/-- The bound of the index search at the decoders' call sites (R179, D30). -/
def maxIndex : Nat := 300

/-! OPEN values (R5, R162, D21): no body, so no proof can see a value (notes/assumptions/5.md). -/

/-- `CMD_PLAY` (OPEN, R162). -/
opaque cmdPlay : Byte
/-- `CMD_STOP` (OPEN, R162). -/
opaque cmdStop : Byte
/-- `CMD_PAUSE` (OPEN, R162). -/
opaque cmdPause : Byte
/-- `CMD_NEXT` (OPEN, R162). -/
opaque cmdNext : Byte
/-- `CMD_PREV` (OPEN, R162). -/
opaque cmdPrev : Byte
/-- `CMD_POWER_ON` (OPEN, R162). -/
opaque cmdPowerOn : Byte
/-- `CMD_POWER_OFF` (OPEN, R162). -/
opaque cmdPowerOff : Byte
/-- `CMD_PLAY_DISC` (OPEN, R157). -/
opaque cmdPlayDisc : Byte
/-- `DEV_DEFAULT` (OPEN, R162). -/
opaque devDefault : Byte

/-- Where a 16-bit code sits in the 8 payload bytes of a TrackStatus frame: the index of its more
significant byte and of its less significant byte (R186: byte offsets and order). -/
structure CodePos where
  hi : Fin 8
  lo : Fin 8
  deriving DecidableEq, Repr, Inhabited

/-- `DISC_CODE_POS` (OPEN, R186, D23; notes/assumptions/17.md). -/
opaque discCodePos : CodePos
/-- `TRACK_CODE_POS` (OPEN, R186, D23; notes/assumptions/17.md). -/
opaque trackCodePos : CodePos
/-- The payload indices of the minute digits of a TimeStatus frame (not given, R188; notes/assumptions/17.md). -/
opaque minutePos : List (Fin 8)
/-- The payload indices of the second digits of a TimeStatus frame (not given, R188; notes/assumptions/17.md). -/
opaque secondPos : List (Fin 8)
/-- The player number an ExtendedStatus payload of 10 bytes spells (not given, R189; notes/assumptions/17.md). -/
opaque extendedPlayer : List Byte → Nat
/-- The disc-range flag an ExtendedStatus payload of 10 bytes spells (not given, R189; notes/assumptions/17.md). -/
opaque extendedHighRange : List Byte → Bool

/-! Free values: applied to the draw counter of the state (notes/assumptions/4.md, 16.md). -/

/-- The value of an unspecified byte register: the draw, then the register's slot (R16, R31, U3, U4). -/
opaque freeByte : Nat → Nat → Byte
/-- The value of `haveStatus` after a decode, which the document does not give (R176, N22). -/
opaque freeHaveStatus : Nat → Bool

end Sys2Proof.Config
end

