-- ==== Sys2Proof/Syntax.lean ====
section
/-! DEFINITION. The instructions: one constructor of `Instr` for each row of spec/opcode_table.json
(00_scope.md R6, 30_encoding.md R85), and the small types their operands and results use. -/

namespace Sys2Proof

/-- The five symbols a received pulse is classified into (R90). -/
inductive Symbol where
  | sync | one | zero | gap | noise
  deriving DecidableEq, Repr

/-- The optional parameters of `sendCommand(device, cmd[, param1[, param2]])` (R156). -/
inductive Params where
  /-- no parameter byte -/
  | none
  /-- one parameter byte -/
  | one (p : Byte)
  /-- two parameter bytes -/
  | two (p q : Byte)
  deriving DecidableEq, Repr

/-- The operands of `START` (R137): the parameter count as the 2-bit port `c_np` carries it (3 is reserved,
R82) and the four bytes of `c_bytes`. -/
structure StartOperands where
  np : BitVec 2
  b0 : Byte
  b1 : Byte
  b2 : Byte
  b3 : Byte
  deriving DecidableEq, Repr

/-- One constructor per row of the opcode table. -/
inductive Instr where
  /-- RXSYM_ZERO: a received pulse of `d` microseconds that is a Zero (R94). -/
  | rxsymZero (d : Duration)
  /-- RXSYM_ONE: a received pulse that is a One (R93). -/
  | rxsymOne (d : Duration)
  /-- RXSYM_SYNC: a received pulse that is a Sync (R92). -/
  | rxsymSync (d : Duration)
  /-- RXSYM_NOISE: a received pulse that is Noise (R95). -/
  | rxsymNoise (d : Duration)
  /-- RXSYM_GAP: a received pulse that is a Gap (R91). -/
  | rxsymGap (d : Duration)
  /-- FRAME_TRANSPORT: `41 40/44 00 code`; `second` is bit `d` of R65, device 0x44. -/
  | frameTransport (second : Bool) (code : Byte)
  /-- FRAME_TRACKSTATUS: `41 device 11 00` and 8 payload bytes (R66). -/
  | frameTrackstatus (device : Byte) (payload : List Byte)
  /-- FRAME_TIMESTATUS: `41 device 11 01` and 8 payload bytes (R67). -/
  | frameTimestatus (device : Byte) (payload : List Byte)
  /-- FRAME_EXTENDEDSTATUS: `41 device 15 00` and 10 payload bytes (R68). -/
  | frameExtendedstatus (device : Byte) (payload : List Byte)
  /-- FRAME_HEARTBEAT: `41 04 00 55` (R69). -/
  | frameHeartbeat
  /-- FRAME_UNKNOWN: any other frame of 1 to 16 bytes that starts with 0x41 (R79, R126). -/
  | frameUnknown (frame : List Byte)
  /-- TXSYM_SYNC: the sync symbol as sent, 2400 active and 600 idle (R61). -/
  | txsymSync
  /-- TXSYM_ONE: the one symbol as sent, 1200 active and 600 idle (R61). -/
  | txsymOne
  /-- TXSYM_ZERO: the zero symbol as sent, 600 active and 600 idle (R61). -/
  | txsymZero
  /-- CMD2: device byte, command byte (R70). -/
  | cmd2 (device cmd : Byte)
  /-- CMD3: device byte, command byte, one parameter (R70). -/
  | cmd3 (device cmd p : Byte)
  /-- CMD4: device byte, command byte, two parameters (R70). -/
  | cmd4 (device cmd p q : Byte)
  /-- sendCommand(device, cmd[, param1[, param2]]) (R156). -/
  | sendCommand (device cmd : Byte) (params : Params)
  /-- playDisc(1, disc, track) with disc in 1..200 (R157, R158). -/
  | playDiscP1Low (disc track : Nat)
  /-- playDisc(1, disc, track) with disc in 201..300 (R157, R158). -/
  | playDiscP1High (disc track : Nat)
  /-- playDisc(2, disc, track) with disc in 1..200 (R157, R158). -/
  | playDiscP2Low (disc track : Nat)
  /-- playDisc(2, disc, track) with disc in 201..300 (R157, R158). -/
  | playDiscP2High (disc track : Nat)
  /-- play() (R162). -/
  | play
  /-- stop() (R162). -/
  | stop
  /-- pause() (R162). -/
  | pause
  /-- nextTrack() (R162). -/
  | nextTrack
  /-- prevTrack() (R162). -/
  | prevTrack
  /-- powerOn() (R162). -/
  | powerOn
  /-- powerOff() (R162). -/
  | powerOff
  /-- RESET (R230). -/
  | reset
  /-- SAMPLE d (R100). -/
  | sample (d : Duration)
  /-- FRAME_END (R109). -/
  | frameEnd
  /-- START np b0 b1 b2 b3 (R137). -/
  | start (np : BitVec 2) (b0 b1 b2 b3 : Byte)
  /-- TICK (R138). -/
  | tick
  /-- CLASSIFY d (R90). -/
  | classify (d : Duration)
  /-- DISPATCH len frame, `len` being the length of `frame` (R120). -/
  | dispatch (frame : List Byte)
  deriving DecidableEq, Repr

/-- What a pending word is an encoding of: the formats of the opcode table (its column "format"), the event
and operation rows named apart. The channel is no bit of the word (notes/assumptions/12.md, DESIGN CHOICE). -/
inductive Channel where
  /-- a received pulse, rows RXSYM_* -/
  | rxPulse
  /-- a received frame, rows FRAME_* -/
  | rxFrame
  /-- a sent pulse, rows TXSYM_* -/
  | txPulse
  /-- a command, rows CMD2, CMD3, CMD4 -/
  | txCommand
  /-- a call of sendCommand -/
  | sendCommand
  /-- a call of playDisc, its four rows -/
  | playDisc
  /-- a call of a named command, rows play to powerOff -/
  | named
  /-- an event, rows RESET to TICK -/
  | event
  /-- a combinational operation, rows CLASSIFY and DISPATCH -/
  | operation
  deriving DecidableEq, Repr

end Sys2Proof
end

