-- ==== Sys2Proof/Machine/Flags.lean ====
section
/-! DEFINITION. The block's predicates: the match vector of a delivered frame (42_dispatcher.md). The block has no
condition codes (R28); the six bits of `f_match` are the nearest thing to them. -/

namespace Sys2Proof.Machine

/-- `frame[k]`; every use below is guarded by the length. -/
def frameByte (frame : List Byte) (k : Nat) : Byte :=
  frame.getD k 0

/-- Transport (R121). -/
def matchTransport (len : Nat) (frame : List Byte) : Bool :=
  len == 4 && frameByte frame 0 == 0x41 && (frameByte frame 1 == 0x40 || frameByte frame 1 == 0x44) &&
    frameByte frame 2 == 0x00

/-- TrackStatus (R122). -/
def matchTrackStatus (len : Nat) (frame : List Byte) : Bool :=
  len == 12 && frameByte frame 0 == 0x41 && frameByte frame 2 == 0x11 && frameByte frame 3 == 0x00

/-- TimeStatus (R123). -/
def matchTimeStatus (len : Nat) (frame : List Byte) : Bool :=
  len == 12 && frameByte frame 0 == 0x41 && frameByte frame 2 == 0x11 && frameByte frame 3 == 0x01

/-- ExtendedStatus (R124). -/
def matchExtendedStatus (len : Nat) (frame : List Byte) : Bool :=
  len == 14 && frameByte frame 0 == 0x41 && frameByte frame 2 == 0x15 && frameByte frame 3 == 0x00

/-- Heartbeat (R125). -/
def matchHeartbeat (len : Nat) (frame : List Byte) : Bool :=
  len == 4 && frameByte frame 0 == 0x41 && frameByte frame 1 == 0x04 && frameByte frame 2 == 0x00 &&
    frameByte frame 3 == 0x55

/-- Unknown: none of the five (R126). -/
def matchUnknown (len : Nat) (frame : List Byte) : Bool :=
  !(matchTransport len frame || matchTrackStatus len frame || matchTimeStatus len frame ||
    matchExtendedStatus len frame || matchHeartbeat len frame)

/-- `DISPATCH len frame`: the 6-bit match vector, each bit computed on its own (R120, R127). -/
def dispatch (len : Nat) (frame : List Byte) : BitVec 6 :=
  BitVec.ofBool (matchUnknown len frame) ++ BitVec.ofBool (matchHeartbeat len frame) ++
    BitVec.ofBool (matchExtendedStatus len frame) ++ BitVec.ofBool (matchTimeStatus len frame) ++
    BitVec.ofBool (matchTrackStatus len frame) ++ BitVec.ofBool (matchTransport len frame)

end Sys2Proof.Machine
end

