-- ==== Sys2Proof/Machine/Operands.lean ====
section
/-! DEFINITION. Operand forms: pulse to symbol, symbol to bit, bits to byte (RX), bytes to pulses, and the
construction of a command's bytes (30_encoding.md, 40_classifier.md, 44_command_builder.md). -/

namespace Sys2Proof.Machine

/-- `CLASSIFY d` (R90), the five conditions in the order the rule writes them. -/
def classify (d : Duration) : Symbol :=
  if Config.thGap < d.toNat then .gap
  else if Config.thSync ≤ d.toNat ∧ d.toNat < Config.thNoise then .sync
  else if Config.thOne ≤ d.toNat ∧ d.toNat < Config.thSync then .one
  else if d.toNat < Config.thOne then .zero
  else .noise

/-- The bit value of a bit symbol; `none` for the non-bit symbols Sync, Gap and Noise (R42, R62). -/
def symbolBit : Symbol → Option Bool
  | .one => some true
  | .zero => some false
  | .sync => none
  | .gap => none
  | .noise => none

/-- `{sr[6:0], b}`: a new bit enters at bit 0 and the older bits move up (R21, R104). -/
def shiftIn (sr : Byte) (b : Bool) : Byte :=
  sr.extractLsb' 0 7 ++ BitVec.ofBool b

/-- A byte from bits in order of arrival, first bit most significant (R72). -/
def packByte (bits : List Bool) : Byte :=
  bits.foldl shiftIn 0

/-- The bits of a byte in the order they are sent, bit 7 first (R43). -/
def byteBits (b : Byte) : List Bool :=
  [b.getLsbD 7, b.getLsbD 6, b.getLsbD 5, b.getLsbD 4, b.getLsbD 3, b.getLsbD 2, b.getLsbD 1, b.getLsbD 0]

/-- The active time of a bit of the given value in microseconds (R61). -/
def bitActive (b : Bool) : Nat :=
  if b then Config.tOneA else Config.tZeroA

/-- The active-pulse durations of a frame or command as a perfect front end measures them: a nominal Sync, then
one nominal pulse per bit (R61, R63, R146). -/
def framePulses (bytes : List Byte) : List Duration :=
  BitVec.ofNat durW Config.tSyncA ::
    bytes.flatMap fun b => (byteBits b).map fun v => BitVec.ofNat durW (bitActive v)

/-- The bytes of a Transport frame, `41 40 00 code` or `41 44 00 code` (R65). -/
def transportFrame (second : Bool) (code : Byte) : List Byte :=
  [0x41, if second then 0x44 else 0x40, 0x00, code]

/-- The bytes of a TrackStatus frame (R66). -/
def trackStatusFrame (device : Byte) (payload : List Byte) : List Byte :=
  0x41 :: device :: 0x11 :: 0x00 :: payload

/-- The bytes of a TimeStatus frame (R67). -/
def timeStatusFrame (device : Byte) (payload : List Byte) : List Byte :=
  0x41 :: device :: 0x11 :: 0x01 :: payload

/-- The bytes of an ExtendedStatus frame (R68). -/
def extendedStatusFrame (device : Byte) (payload : List Byte) : List Byte :=
  0x41 :: device :: 0x15 :: 0x00 :: payload

/-- The bytes of the heartbeat (R69). -/
def heartbeatFrame : List Byte :=
  [0x41, 0x04, 0x00, 0x55]

/-- Packed BCD of a number in 0..99: tens nibble, ones nibble (R73, R160). -/
def bcd (t : Nat) : Byte :=
  BitVec.ofNat 8 (16 * (t / 10) + t % 10)

/-- The disc byte of a disc number in 1..300 (R74, R159). -/
def discByte (n : Nat) : Byte :=
  if n ≤ 99 then bcd n
  else if n ≤ 200 then BitVec.ofNat 8 (n - 100 + 0x9A)
  else BitVec.ofNat 8 (n - 200)

/-- The TX device code for a player and a disc (R76, R158); `none` for a player that is not 1 or 2 (R161). -/
def devByte (player disc : Nat) : Option Byte :=
  match player with
  | 1 => some (if disc ≤ 200 then 0x90 else 0x93)
  | 2 => some (if disc ≤ 200 then 0x92 else 0x95)
  | _ => none

/-- `playDisc(player, disc, track)` (R157): the operands of its START, or `none` where the call is refused (R161). -/
def playDisc (player disc track : Nat) : Option StartOperands :=
  if 1 ≤ disc ∧ disc ≤ 300 ∧ track ≤ 99 then
    (devByte player disc).map fun dev => ⟨2, dev, Config.cmdPlayDisc, discByte disc, bcd track⟩
  else none

/-- `sendCommand(device, cmd[, param1[, param2]])` (R156); the fillers are 00. -/
def sendCommand (device cmd : Byte) : Params → StartOperands
  | .none => ⟨0, device, cmd, 0, 0⟩
  | .one p => ⟨1, device, cmd, p, 0⟩
  | .two p q => ⟨2, device, cmd, p, q⟩

/-- A named command: `START 0 DEV_DEFAULT CMD_<NAME> 00 00` (R162). -/
def namedCommand (cmd : Byte) : StartOperands :=
  ⟨0, Config.devDefault, cmd, 0, 0⟩

/-- The disc number in 1..200 that a disc byte encodes under the device codes 0x90 and 0x92 (R74 read backwards);
0, which is no disc, for a byte that encodes none. -/
def discOfLowByte (b : Byte) : Nat :=
  if b.toNat / 16 ≤ 9 ∧ b.toNat % 16 ≤ 9 then 10 * (b.toNat / 16) + b.toNat % 16
  else if 0x9A ≤ b.toNat ∧ b.toNat ≤ 0xFE then b.toNat - 0x9A + 100
  else 0

/-- The disc number in 201..300 that a disc byte encodes under the device codes 0x93 and 0x95 (R74 read backwards);
0 for a byte that encodes none. -/
def discOfHighByte (b : Byte) : Nat :=
  if 1 ≤ b.toNat ∧ b.toNat ≤ 100 then b.toNat + 200 else 0

/-- The track number that a packed-BCD byte encodes (R73 read backwards); 100, which is no track, for a byte that is
not packed BCD. -/
def trackOfByte (b : Byte) : Nat :=
  if b.toNat / 16 ≤ 9 ∧ b.toNat % 16 ≤ 9 then 10 * (b.toNat / 16) + b.toNat % 16 else 100

/-- The row of the opcode table a call `playDisc(player, disc, track)` is, or `none` where the call is refused (R161). -/
def playDiscRow (player disc track : Nat) : Option Instr :=
  if 1 ≤ disc ∧ disc ≤ 300 ∧ track ≤ 99 then
    match player with
    | 1 => some (if disc ≤ 200 then .playDiscP1Low disc track else .playDiscP1High disc track)
    | 2 => some (if disc ≤ 200 then .playDiscP2Low disc track else .playDiscP2High disc track)
    | _ => none
  else none

end Sys2Proof.Machine
end

