-- ==== Sys2Proof/WellFormed.lean ====
section
/-! DEFINITION. Which terms of `Instr` are instructions of the opcode table: the operand ranges of its rows. -/

namespace Sys2Proof

/-- The operand ranges the rows of the opcode table give. -/
def Instr.wellFormed : Instr → Bool
  | .rxsymZero d => d.toNat ≤ 899
  | .rxsymOne d => 900 ≤ d.toNat && d.toNat ≤ 1999
  | .rxsymSync d => 2000 ≤ d.toNat && d.toNat ≤ 4999
  | .rxsymNoise d => 5000 ≤ d.toNat && d.toNat ≤ 200000
  | .rxsymGap d => 200001 ≤ d.toNat
  | .frameTransport _ _ => true
  | .frameTrackstatus _ payload => payload.length == 8
  | .frameTimestatus _ payload => payload.length == 8
  | .frameExtendedstatus _ payload => payload.length == 10
  | .frameHeartbeat => true
  | .frameUnknown frame =>
      1 ≤ frame.length && frame.length ≤ Config.frameMax && Machine.frameByte frame 0 == Config.lead &&
        Machine.matchUnknown frame.length frame
  | .txsymSync => true
  | .txsymOne => true
  | .txsymZero => true
  | .cmd2 _ _ => true
  | .cmd3 _ _ _ => true
  | .cmd4 _ _ _ _ => true
  | .sendCommand _ _ _ => true
  | .playDiscP1Low disc track => 1 ≤ disc && disc ≤ 200 && track ≤ 99
  | .playDiscP1High disc track => 201 ≤ disc && disc ≤ 300 && track ≤ 99
  | .playDiscP2Low disc track => 1 ≤ disc && disc ≤ 200 && track ≤ 99
  | .playDiscP2High disc track => 201 ≤ disc && disc ≤ 300 && track ≤ 99
  | .play => true
  | .stop => true
  | .pause => true
  | .nextTrack => true
  | .prevTrack => true
  | .powerOn => true
  | .powerOff => true
  | .reset => true
  | .sample _ => true
  | .frameEnd => true
  | .start _ _ _ _ _ => true
  | .tick => true
  | .classify _ => true
  | .dispatch frame =>
      1 ≤ frame.length && frame.length ≤ Config.frameMax && Machine.frameByte frame 0 == Config.lead

end Sys2Proof
end

