-- ==== Sys2Proof/Decode.lean ====
section
/-! DEFINITION. Words to instructions and back. The spec gives the bytes of frames (30_encoding.md R64 to R69), of
commands (R70, R71), the durations of symbols (R61, R62) and the operands of events (00_scope.md R6). How a word
says which of these it is, and the numbers of events, operations and named commands, are the model's own
(notes/assumptions/12.md, DESIGN CHOICE). -/

namespace Sys2Proof

/-- Why a word spells no instruction. -/
inductive DecodeError where
  /-- a received-pulse word that is not a 4-byte duration -/
  | notAPulse
  /-- not 1 to 16 bytes starting with 0x41 (R64, R78) -/
  | notAFrame
  /-- not the active and idle time of a symbol of R61 -/
  | notATxSymbol
  /-- a command that is not 2, 3 or 4 bytes (R70) -/
  | badCommandLength
  /-- a playDisc word that is not 4 bytes starting with a TX device code (R76) -/
  | notAPlayDisc
  /-- no number of a named command (R84) -/
  | notANamedCommand
  /-- no number of an event, or the wrong operand bytes for it (R6) -/
  | notAnEvent
  /-- a START word whose parameter count does not fit the 2-bit port `c_np` (R11) -/
  | badParamCount
  /-- no number of a combinational operation, or the wrong operand bytes for it (R6) -/
  | notAnOperation
  deriving DecidableEq, Repr

/-- A duration as four bytes, most significant first (notes/assumptions/12.md, DESIGN CHOICE). -/
def durationBytes (d : Duration) : List Byte :=
  [d.extractLsb' 24 8, d.extractLsb' 16 8, d.extractLsb' 8 8, d.extractLsb' 0 8]

/-- The duration four bytes spell, most significant first. -/
def durationOf (a b c d : Byte) : Duration :=
  a ++ b ++ c ++ d

/-- A received pulse: the row its duration selects (R62). -/
def decodeRxPulse : List Byte → Except DecodeError Instr
  | [a, b, c, d] =>
    let dur := durationOf a b c d
    match Machine.classify dur with
    | .zero => .ok (.rxsymZero dur)
    | .one => .ok (.rxsymOne dur)
    | .sync => .ok (.rxsymSync dur)
    | .noise => .ok (.rxsymNoise dur)
    | .gap => .ok (.rxsymGap dur)
  | _ => .error .notAPulse

/-- A received frame: the row its length and header bytes select (R64, R85). -/
def decodeRxFrame (frame : List Byte) : Except DecodeError Instr :=
  let len := frame.length
  if 1 ≤ len ∧ len ≤ Config.frameMax ∧ Machine.frameByte frame 0 = Config.lead then
    if Machine.matchTransport len frame then
      .ok (.frameTransport (Machine.frameByte frame 1 == 0x44) (Machine.frameByte frame 3))
    else if Machine.matchTrackStatus len frame then
      .ok (.frameTrackstatus (Machine.frameByte frame 1) (frame.drop 4))
    else if Machine.matchTimeStatus len frame then
      .ok (.frameTimestatus (Machine.frameByte frame 1) (frame.drop 4))
    else if Machine.matchExtendedStatus len frame then
      .ok (.frameExtendedstatus (Machine.frameByte frame 1) (frame.drop 4))
    else if Machine.matchHeartbeat len frame then .ok .frameHeartbeat
    else .ok (.frameUnknown frame)
  else .error .notAFrame

/-- A sent pulse: active and idle time in microseconds, 16 bits each, most significant byte first, as in the table
of R61. -/
def decodeTxPulse (bytes : List Byte) : Except DecodeError Instr :=
  if bytes = [0x09, 0x60, 0x02, 0x58] then .ok .txsymSync
  else if bytes = [0x04, 0xB0, 0x02, 0x58] then .ok .txsymOne
  else if bytes = [0x02, 0x58, 0x02, 0x58] then .ok .txsymZero
  else .error .notATxSymbol

/-- A command: its format by its length (R70). -/
def decodeTxCommand : List Byte → Except DecodeError Instr
  | [d, c] => .ok (.cmd2 d c)
  | [d, c, p] => .ok (.cmd3 d c p)
  | [d, c, p, q] => .ok (.cmd4 d c p q)
  | _ => .error .badCommandLength

/-- A call of sendCommand: its two to four bytes (R156). -/
def decodeSendCommand : List Byte → Except DecodeError Instr
  | [d, c] => .ok (.sendCommand d c .none)
  | [d, c, p] => .ok (.sendCommand d c (.one p))
  | [d, c, p, q] => .ok (.sendCommand d c (.two p q))
  | _ => .error .badCommandLength

/-- A call of playDisc: its row by byte 0 alone (the table's mask 0xFF000000, R158), its arguments from the disc and
track bytes. Byte 1 is CMD_PLAY_DISC, which is OPEN, and is not tested (notes/assumptions/13.md, DESIGN CHOICE). -/
def decodePlayDisc : List Byte → Except DecodeError Instr
  | [dev, _, disc, track] =>
    if dev = 0x90 then .ok (.playDiscP1Low (Machine.discOfLowByte disc) (Machine.trackOfByte track))
    else if dev = 0x93 then .ok (.playDiscP1High (Machine.discOfHighByte disc) (Machine.trackOfByte track))
    else if dev = 0x92 then .ok (.playDiscP2Low (Machine.discOfLowByte disc) (Machine.trackOfByte track))
    else if dev = 0x95 then .ok (.playDiscP2High (Machine.discOfHighByte disc) (Machine.trackOfByte track))
    else .error .notAPlayDisc
  | _ => .error .notAPlayDisc

/-- A named command by its place in the list of R84. -/
def decodeNamed (bytes : List Byte) : Except DecodeError Instr :=
  if bytes = [0] then .ok .play
  else if bytes = [1] then .ok .stop
  else if bytes = [2] then .ok .pause
  else if bytes = [3] then .ok .nextTrack
  else if bytes = [4] then .ok .prevTrack
  else if bytes = [5] then .ok .powerOn
  else if bytes = [6] then .ok .powerOff
  else .error .notANamedCommand

/-- A START's operands: a parameter count that fits two bits (R11, R82) and four bytes. -/
def decodeStart (np b0 b1 b2 b3 : Byte) : Except DecodeError Instr :=
  if np.toNat ≤ 3 then .ok (.start (np.extractLsb' 0 2) b0 b1 b2 b3) else .error .badParamCount

/-- An event by its place in the table of R6, then its operands. -/
def decodeEvent : List Byte → Except DecodeError Instr
  | [op] =>
    if op = 0 then .ok .reset else if op = 2 then .ok .frameEnd else if op = 4 then .ok .tick
    else .error .notAnEvent
  | [op, a, b, c, d] => if op = 1 then .ok (.sample (durationOf a b c d)) else .error .notAnEvent
  | [op, np, b0, b1, b2, b3] => if op = 3 then decodeStart np b0 b1 b2 b3 else .error .notAnEvent
  | _ => .error .notAnEvent

/-- The operand of DISPATCH: a frame of 1 to 16 bytes that passed the lead-byte filter (R120). -/
def decodeDispatch (frame : List Byte) : Except DecodeError Instr :=
  if 1 ≤ frame.length ∧ frame.length ≤ Config.frameMax ∧ Machine.frameByte frame 0 = Config.lead then
    .ok (.dispatch frame)
  else .error .notAnOperation

/-- The operand of CLASSIFY: a duration. -/
def decodeClassify : List Byte → Except DecodeError Instr
  | [a, b, c, d] => .ok (.classify (durationOf a b c d))
  | _ => .error .notAnOperation

/-- A combinational operation: 0 CLASSIFY, 1 DISPATCH, then its operand. -/
def decodeOperation : List Byte → Except DecodeError Instr
  | op :: rest =>
    if op = 0 then decodeClassify rest else if op = 1 then decodeDispatch rest else .error .notAnOperation
  | [] => .error .notAnOperation

/-- The decoder: total on any bytes of any channel. -/
def decode : Channel → List Byte → Except DecodeError Instr
  | .rxPulse, bytes => decodeRxPulse bytes
  | .rxFrame, bytes => decodeRxFrame bytes
  | .txPulse, bytes => decodeTxPulse bytes
  | .txCommand, bytes => decodeTxCommand bytes
  | .sendCommand, bytes => decodeSendCommand bytes
  | .playDisc, bytes => decodePlayDisc bytes
  | .named, bytes => decodeNamed bytes
  | .event, bytes => decodeEvent bytes
  | .operation, bytes => decodeOperation bytes

/-- The parameter bytes of a call of sendCommand. -/
def paramBytes : Params → List Byte
  | .none => []
  | .one p => [p]
  | .two p q => [p, q]

/-- The channel of an instruction: its row's format. -/
def channelOf : Instr → Channel
  | .rxsymZero _ => .rxPulse
  | .rxsymOne _ => .rxPulse
  | .rxsymSync _ => .rxPulse
  | .rxsymNoise _ => .rxPulse
  | .rxsymGap _ => .rxPulse
  | .frameTransport _ _ => .rxFrame
  | .frameTrackstatus _ _ => .rxFrame
  | .frameTimestatus _ _ => .rxFrame
  | .frameExtendedstatus _ _ => .rxFrame
  | .frameHeartbeat => .rxFrame
  | .frameUnknown _ => .rxFrame
  | .txsymSync => .txPulse
  | .txsymOne => .txPulse
  | .txsymZero => .txPulse
  | .cmd2 _ _ => .txCommand
  | .cmd3 _ _ _ => .txCommand
  | .cmd4 _ _ _ _ => .txCommand
  | .sendCommand _ _ _ => .sendCommand
  | .playDiscP1Low _ _ => .playDisc
  | .playDiscP1High _ _ => .playDisc
  | .playDiscP2Low _ _ => .playDisc
  | .playDiscP2High _ _ => .playDisc
  | .play => .named
  | .stop => .named
  | .pause => .named
  | .nextTrack => .named
  | .prevTrack => .named
  | .powerOn => .named
  | .powerOff => .named
  | .reset => .event
  | .sample _ => .event
  | .frameEnd => .event
  | .start _ _ _ _ _ => .event
  | .tick => .event
  | .classify _ => .operation
  | .dispatch _ => .operation

/-- The word of an instruction, on the channel `channelOf` gives (R61, R62, R64 to R71, R156, R157). -/
def encode : Instr → List Byte
  | .rxsymZero d => durationBytes d
  | .rxsymOne d => durationBytes d
  | .rxsymSync d => durationBytes d
  | .rxsymNoise d => durationBytes d
  | .rxsymGap d => durationBytes d
  | .frameTransport second code => Machine.transportFrame second code
  | .frameTrackstatus device payload => Machine.trackStatusFrame device payload
  | .frameTimestatus device payload => Machine.timeStatusFrame device payload
  | .frameExtendedstatus device payload => Machine.extendedStatusFrame device payload
  | .frameHeartbeat => Machine.heartbeatFrame
  | .frameUnknown frame => frame
  | .txsymSync => [0x09, 0x60, 0x02, 0x58]
  | .txsymOne => [0x04, 0xB0, 0x02, 0x58]
  | .txsymZero => [0x02, 0x58, 0x02, 0x58]
  | .cmd2 d c => [d, c]
  | .cmd3 d c p => [d, c, p]
  | .cmd4 d c p q => [d, c, p, q]
  | .sendCommand d c params => d :: c :: paramBytes params
  | .playDiscP1Low disc track => [0x90, Config.cmdPlayDisc, Machine.discByte disc, Machine.bcd track]
  | .playDiscP1High disc track => [0x93, Config.cmdPlayDisc, Machine.discByte disc, Machine.bcd track]
  | .playDiscP2Low disc track => [0x92, Config.cmdPlayDisc, Machine.discByte disc, Machine.bcd track]
  | .playDiscP2High disc track => [0x95, Config.cmdPlayDisc, Machine.discByte disc, Machine.bcd track]
  | .play => [0]
  | .stop => [1]
  | .pause => [2]
  | .nextTrack => [3]
  | .prevTrack => [4]
  | .powerOn => [5]
  | .powerOff => [6]
  | .reset => [0]
  | .sample d => 1 :: durationBytes d
  | .frameEnd => [2]
  | .start np b0 b1 b2 b3 => [3, np.setWidth 8, b0, b1, b2, b3]
  | .tick => [4]
  | .classify d => 0 :: durationBytes d
  | .dispatch frame => 1 :: frame

/-- The lowest `n` bytes of a number, most significant first: the table numbers a frame or command with its first
byte most significant (notes/assumptions/21.md, DESIGN CHOICE). -/
def wordBytes : Nat → Nat → List Byte
  | 0, _ => []
  | n + 1, w => BitVec.ofNat 8 (w / 256 ^ n) :: wordBytes n w

/-- The channel and the bytes of a bare word of the opcode table, which names no channel: bytes that start with the
lead byte 0x41 are a received frame, four bytes that start with a TX device code are a playDisc word, one byte is
the low byte of a received pulse's duration, two to four other bytes are a command, and anything longer can only be
a frame (notes/assumptions/21.md, DESIGN CHOICE). -/
def tableWord (nbits w : Nat) : Channel × List Byte :=
  let bytes := wordBytes (nbits / 8) w
  if Machine.frameByte bytes 0 = Config.lead then (.rxFrame, bytes)
  else match bytes with
    | [] => (.event, [])
    | [b] => (.rxPulse, [0, 0, 0, b])
    | [_, _] => (.txCommand, bytes)
    | [_, _, _] => (.txCommand, bytes)
    | [dev, _, _, _] =>
      if dev = 0x90 ∨ dev = 0x93 ∨ dev = 0x92 ∨ dev = 0x95 then (.playDisc, bytes) else (.txCommand, bytes)
    | _ => (.rxFrame, bytes)

/-- The instruction the decoder reads from a bare word of the opcode table. -/
def decodeTableWord (nbits w : Nat) : Option Instr :=
  (decode (tableWord nbits w).1 (tableWord nbits w).2).toOption

end Sys2Proof
end

