-- ==== Sys2Proof/Machine/State.lean ====
section
/-! DEFINITION. The machine's state as plain data: the registers of 10_state.md, the record of the adjacent software
(45_adjacent_decoders.md), and the model's own fields. INVENTORY.md lists every field with its rule. -/

namespace Sys2Proof.Machine

/-- `rx_state` (R18). Value 3 is never written, so the type lacks it (U14). -/
inductive RxState where
  | hunt | pack | stop
  deriving DecidableEq, Repr

/-- `tx_phase` (R23). Value 7 is never written, so the type lacks it (U14). -/
inductive TxPhase where
  | idle | pre | syncA | syncI | bitA | bitI | settle
  deriving DecidableEq, Repr

/-- `rx_drop_reason` (R201), codes 0 to 5; 6 and 7 are never produced (U14). -/
inductive DropReason where
  | none | overflow | tooShort | noSync | empty | badLead
  deriving DecidableEq, Repr

/-- The RX registers (R18 to R22). -/
structure Rx where
  /-- `rx_state` (R18) -/
  state : RxState
  /-- `rx_count` (R19): 8 bits for `PULSE_CAP` = 128 -/
  count : BitVec 8
  /-- `rx_ovf` (R20) -/
  ovf : Bool
  /-- `rx_sr` (R21) -/
  sr : Byte
  /-- `rx_nbits` (R21) -/
  nbits : BitVec 3
  /-- `rx_buf[0..15]` (R22) -/
  buf : Vector Byte 16
  /-- `rx_len` (R22) -/
  len : BitVec 5
  deriving DecidableEq, Repr

/-- The TX registers (R23 to R26). -/
structure Tx where
  /-- `tx_phase` (R23) -/
  phase : TxPhase
  /-- `tx_timer` (R24) -/
  timer : BitVec 13
  /-- `tx_buf[0..3]` (R25) -/
  buf : Vector Byte 4
  /-- `tx_len` (R25) -/
  len : BitVec 3
  /-- `tx_byte` (R26) -/
  byte : BitVec 2
  /-- `tx_bit` (R26) -/
  bit : BitVec 3
  deriving DecidableEq, Repr

/-- The output registers (R16, R17, R27). -/
structure Out where
  /-- `f_valid`, one-cycle strobe (R16) -/
  fValid : Bool
  /-- `f_len` (R16) -/
  fLen : BitVec 5
  /-- `f_bytes[0..15]` (R16) -/
  fBytes : Vector Byte 16
  /-- `f_match` (R16, R120) -/
  fMatch : BitVec 6
  /-- `rx_drop`, one-cycle strobe (R17) -/
  rxDrop : Bool
  /-- `rx_drop_reason` (R17, R201) -/
  rxDropReason : DropReason
  /-- `tx_done`, one-cycle strobe (R27) -/
  txDone : Bool
  deriving DecidableEq, Repr

/-- The TrackStatus record of the adjacent software (R176). The sentinel -1 is `none`: "a model must not read -1 as a
number" (U10; notes/assumptions/19.md). `player` is 1, 2 or 0 = unknown. -/
structure TrackStatus where
  playing : Bool
  paused : Bool
  stopped : Bool
  haveStatus : Bool
  discCode : BitVec 16
  trackCode : BitVec 16
  discIndex : Option Nat
  trackIndex : Option Nat
  discNumber : Option Nat
  trackNumber : Option Nat
  player : Nat
  deriving DecidableEq, Repr

/-- An invocation the adjacent software makes (R177, R187, R190). -/
inductive ObserverCall where
  /-- `onTransport(code)` (R177) -/
  | onTransport (code : Byte)
  /-- `onStatus(copy of TrackStatus)` (R186, R187) -/
  | onStatus (status : TrackStatus)
  /-- the diagnostic log line that a changed signature gates (R187); its content is notes/assumptions/24.md, DESIGN CHOICE -/
  | signatureLog (signature : List Byte)
  /-- the UnknownFrameLogger's raw bytes (R126, R190) -/
  | unknownFrame (bytes : List Byte)
  deriving DecidableEq, Repr

/-- What the adjacent software holds (R175, R176, R187 to R189). Nothing of the block reads it. -/
structure Adjacent where
  /-- the one TrackStatus record (R176) -/
  status : TrackStatus
  /-- the 8 payload bytes of the previous TrackStatus frame (R187); none before the first -/
  lastSignature : Option (List Byte)
  /-- the minute digits of the last TimeStatus frame, kept internally (R188) -/
  minuteDigits : List (Option Nat)
  /-- the second digits of the last TimeStatus frame, kept internally (R188) -/
  secondDigits : List (Option Nat)
  /-- the player of the last ExtendedStatus frame, kept internally (R189) -/
  extPlayer : Nat
  /-- the disc-range flag of the last ExtendedStatus frame, kept internally (R189) -/
  extHighRange : Bool
  /-- the invocations made in the last clock cycle, in order -/
  calls : List ObserverCall
  deriving DecidableEq, Repr

/-- The result of a combinational operation (R90, R120; notes/assumptions/11.md). -/
inductive OpResult where
  /-- no CLASSIFY and no DISPATCH row has been computed -/
  | none
  /-- the symbol CLASSIFY gave -/
  | symbol (sym : Symbol)
  /-- the match vector DISPATCH gave -/
  | vector (m : BitVec 6)
  deriving DecidableEq, Repr

/-- The input ports in one clock cycle (R11): any of them may be high together (R33). -/
structure PortInputs where
  /-- `rst` -/
  rst : Bool
  /-- `tick_us` -/
  tick : Bool
  /-- `s_valid` -/
  sValid : Bool
  /-- `s_dur` -/
  sDur : Duration
  /-- `s_end` -/
  sEnd : Bool
  /-- `c_start` -/
  cStart : Bool
  /-- `c_np` and `c_bytes` -/
  cmd : StartOperands
  deriving DecidableEq, Repr

/-- One thing the environment presents (R6; notes/assumptions/1.md). -/
inductive Stimulus where
  /-- a word of the opcode table, on its channel -/
  | word (channel : Channel) (bytes : List Byte)
  /-- a clock cycle with these inputs (R33) -/
  | ports (p : PortInputs)
  /-- a call of playDisc with any arguments (R157, R161) -/
  | playDiscCall (player disc track : Nat)
  deriving DecidableEq, Repr

/-- The state. -/
structure State where
  /-- RX registers (R18 to R22) -/
  rx : Rx
  /-- TX registers (R23 to R26) -/
  tx : Tx
  /-- output registers (R27) -/
  out : Out
  /-- the adjacent software (R175); outside the named block -/
  adj : Adjacent
  /-- MODEL's own: result of the last combinational operation (notes/assumptions/11.md) -/
  opResult : OpResult
  /-- MODEL's own: what the environment presents next, first element first (notes/assumptions/1.md) -/
  pending : List Stimulus
  /-- MODEL's own: how many times free values have been drawn (notes/assumptions/4.md) -/
  draws : Nat
  deriving DecidableEq, Repr

/-- The state with other RX registers. -/
def State.setRx (s : State) (rx : Rx) : State := { s with rx := rx }
/-- The state with other TX registers. -/
def State.setTx (s : State) (tx : Tx) : State := { s with tx := tx }
/-- The state with other output registers. -/
def State.setOut (s : State) (out : Out) : State := { s with out := out }
/-- The state with another state of the adjacent software. -/
def State.setAdj (s : State) (adj : Adjacent) : State := { s with adj := adj }
/-- The state with another result of a combinational operation. -/
def State.setOpResult (s : State) (r : OpResult) : State := { s with opResult := r }
/-- The state with other pending stimuli. -/
def State.setPending (s : State) (p : List Stimulus) : State := { s with pending := p }
/-- The state after one more draw of free values. -/
def State.draw (s : State) : State := { s with draws := s.draws + 1 }

/-- The block has no fault: "No operation of the block raises an error, stops the block or changes control flow"
(R200). No constructor, so nothing can raise one; safe. -/
inductive Fault
  deriving DecidableEq, Repr

/-- Why the model has no next state. -/
inductive Refusal where
  /-- Raised by an arm of `exec` whose instruction has no meaning yet; safe. No arm raises it. -/
  | notModelled (mnemonic : String)
  /-- Raised by `step` where the pending word spells no row of the opcode table; safe: such a word is an artefact of
  the model's own encoding, not an input of the block (notes/assumptions/12.md). -/
  | undecodable (why : DecodeError)
  deriving DecidableEq, Repr

/-- The RX registers after reset (R31); `rx_buf` is unspecified there: notes/assumptions/3.md, DESIGN CHOICE. -/
def Rx.reset : Rx :=
  { state := .hunt, count := 0, ovf := false, sr := 0, nbits := 0, buf := Vector.replicate 16 0, len := 0 }

/-- The TX registers after reset (R31); `tx_buf` is unspecified there: notes/assumptions/3.md, DESIGN CHOICE. -/
def Tx.reset : Tx :=
  { phase := .idle, timer := 0, buf := Vector.replicate 4 0, len := 0, byte := 0, bit := 7 }

/-- The output registers after reset (R31); `f_bytes` is unspecified there: notes/assumptions/3.md, DESIGN CHOICE. -/
def Out.reset : Out :=
  { fValid := false, fLen := 0, fBytes := Vector.replicate 16 0, fMatch := 0, rxDrop := false,
    rxDropReason := .none, txDone := false }

/-- The TrackStatus record at creation: every field unset, integers at the sentinel (R176, D27). -/
def TrackStatus.created : TrackStatus :=
  { playing := false, paused := false, stopped := false, haveStatus := false, discCode := 0, trackCode := 0,
    discIndex := none, trackIndex := none, discNumber := none, trackNumber := none, player := 0 }

/-- The adjacent software before the first delivery (R176, R233; notes/assumptions/17.md, 18.md). -/
def Adjacent.created : Adjacent :=
  { status := TrackStatus.created, lastSignature := none, minuteDigits := [], secondDigits := [], extPlayer := 0,
    extHighRange := false, calls := [] }

/-- The machine right after reset (R31, R230), nothing presented yet. -/
def State.reset : State :=
  { rx := Rx.reset, tx := Tx.reset, out := Out.reset, adj := Adjacent.created, opResult := .none, pending := [],
    draws := 0 }

end Sys2Proof.Machine
end

