-- ==== Sys2Proof/Machine/Adjacent.lean ====
section
/-! DEFINITION. The adjacent software: NumeralCodec, DiscTrackMapper and the frame decoders (45_adjacent_decoders.md).
It is outside the named block; nothing here feeds back into the block (R175; notes/assumptions/15.md). -/

namespace Sys2Proof.Machine

/-- `encodeIndex` with fuel: binary digit `p` contributes `4^p`. -/
def encodeIndexFuel : Nat → Nat → Nat
  | 0, _ => 0
  | fuel + 1, n => if n = 0 then 0 else n % 2 + 4 * encodeIndexFuel fuel (n / 2)

/-- `encodeIndex(n)`: the sum of `4^p` over the set bits `p` of `n`, not truncated (R178, D22). -/
def encodeIndex (n : Nat) : Nat :=
  encodeIndexFuel n n

/-- `decodeIndexFromCode(code, maxIndex)`: the first `n` in 1..maxIndex with `encodeIndex n = code` (R179). -/
def decodeIndexFromCode (code maxIndex : Nat) : Option Nat :=
  (List.range' 1 maxIndex).find? fun n => encodeIndex n == code

/-- `idx99(n)`, the index of a number in 1..99 (R180). -/
def idx99 (n : Nat) : Nat :=
  n + 6 * (n / 10)

/-- `num99(idx)`, its inverse by search over 1..99 (R180, D29). -/
def num99 (idx : Nat) : Option Nat :=
  (List.range' 1 99).find? fun n => idx99 n == idx

/-- The disc number of a low-range device (R182). -/
def discLow (idx : Nat) : Option Nat :=
  match num99 idx with
  | some n => some n
  | none => if 154 ≤ idx ∧ idx - 54 ≤ 200 then some (idx - 54) else none

/-- The disc number of a high-range device (R183). -/
def discHigh (idx : Nat) : Option Nat :=
  if 1 ≤ idx ∧ idx ≤ 100 then some (idx + 200) else none

/-- The player an RX device code stands for, 0 for an unknown one (R184, R185). -/
def playerOf (device : Byte) : Nat :=
  if device = 0x40 ∨ device = 0x45 then 1 else if device = 0x44 ∨ device = 0x51 then 2 else 0

/-- DiscTrackMapper: the disc number of an index under an RX device code, `none` for an unknown device (R184, R185). -/
def discNumberOf (device : Byte) (idx : Nat) : Option Nat :=
  if device = 0x40 ∨ device = 0x44 then discLow idx
  else if device = 0x45 ∨ device = 0x51 then discHigh idx
  else none

/-- `decodeDigit(b)`: the digit in 0..9 whose power-of-4 code is `b` (R191, D24). -/
def decodeDigit (b : Byte) : Option Nat :=
  (List.range 10).find? fun d => encodeIndex d == b.toNat

/-- A sentinel as the document writes it: -1 for `none` (R176, R186). -/
def sentinel : Option Nat → Int
  | some n => n
  | none => -1

/-- The payload of a 12- or 14-byte frame: the bytes from `frame[4]` on (R66 to R68). -/
def payloadOf (frame : List Byte) : List Byte :=
  frame.drop 4

/-- The 16 bits of a payload at an OPEN position (R186). -/
def codeAt (payload : List Byte) (pos : Config.CodePos) : BitVec 16 :=
  frameByte payload pos.hi.val ++ frameByte payload pos.lo.val

/-- The three flags after a transport code (R177); an unknown code leaves them. -/
def transportFlags (code : Byte) (t : TrackStatus) : TrackStatus :=
  if code = 0x00 then { t with playing := true, paused := false, stopped := false }
  else if code = 0x04 then { t with playing := false, paused := true, stopped := false }
  else if code = 0x01 then { t with playing := false, paused := false, stopped := true }
  else t

/-- The Transport decoder, match bit 0 (R177). What sets `haveStatus` is not given: a free value (notes/assumptions/16.md). -/
def decodeTransport (draw : Nat) (frame : List Byte) (a : Adjacent) : Adjacent :=
  let code := frameByte frame 3
  { a with
    status := { transportFlags code a.status with haveStatus := Config.freeHaveStatus draw }
    calls := a.calls ++ [.onTransport code] }

/-- The fields a TrackStatus frame decodes to (R181, R184 to R186). -/
def trackFields (draw : Nat) (frame : List Byte) (t : TrackStatus) : TrackStatus :=
  let device := frameByte frame 1
  let discCode := codeAt (payloadOf frame) Config.discCodePos
  let trackCode := codeAt (payloadOf frame) Config.trackCodePos
  let discIndex := decodeIndexFromCode discCode.toNat Config.maxIndex
  let trackIndex := decodeIndexFromCode trackCode.toNat Config.maxIndex
  { t with
    discCode := discCode
    trackCode := trackCode
    discIndex := discIndex
    trackIndex := trackIndex
    discNumber := discIndex.bind (discNumberOf device)
    trackNumber := trackIndex.bind num99
    player := playerOf device
    haveStatus := Config.freeHaveStatus draw }

/-- The log line a changed signature gates (R187). What the line carries the spec does not give; here it is the 8
payload bytes (notes/assumptions/24.md, DESIGN CHOICE). -/
def signatureCalls (payload : List Byte) (last : Option (List Byte)) : List ObserverCall :=
  if last = some payload then [] else [.signatureLog payload]

/-- The TrackStatus decoder, match bit 1: the record, then the status observer on every frame (R186, R187). The spec
gives the gated log line no place among the calls (R53, R187, R221); here it stands before `onStatus`
(notes/assumptions/24.md, DESIGN CHOICE). -/
def decodeTrackStatus (draw : Nat) (frame : List Byte) (a : Adjacent) : Adjacent :=
  let status := trackFields draw frame a.status
  { a with
    status := status
    lastSignature := some (payloadOf frame)
    calls := a.calls ++ signatureCalls (payloadOf frame) a.lastSignature ++ [.onStatus status] }

/-- The digits at OPEN positions of a payload, each by `decodeDigit` (R188, R191). -/
def digitsAt (payload : List Byte) (positions : List (Fin 8)) : List (Option Nat) :=
  positions.map fun k => decodeDigit (frameByte payload k.val)

/-- The TimeStatus decoder, match bit 2: kept internally, no observer (R188). -/
def decodeTimeStatus (frame : List Byte) (a : Adjacent) : Adjacent :=
  { a with
    minuteDigits := digitsAt (payloadOf frame) Config.minutePos
    secondDigits := digitsAt (payloadOf frame) Config.secondPos }

/-- The ExtendedStatus decoder, match bit 3: kept internally, no observer (R189). -/
def decodeExtendedStatus (frame : List Byte) (a : Adjacent) : Adjacent :=
  { a with
    extPlayer := Config.extendedPlayer (payloadOf frame)
    extHighRange := Config.extendedHighRange (payloadOf frame) }

/-- The UnknownFrameLogger, match bit 5 (R190). -/
def logUnknown (frame : List Byte) (a : Adjacent) : Adjacent :=
  { a with calls := a.calls ++ [.unknownFrame frame] }

/-- Decoder `k` runs if and only if `f_match[k] = 1` (R175); the heartbeat, bit 4, has no effect (R190). All that
match run ("fire both", R213); no delivered frame matches two (R127), so their order is not observable
(notes/assumptions/20.md). -/
def runDecoders (draw : Nat) (frame : List Byte) (m : BitVec 6) (a : Adjacent) : Adjacent :=
  let a := if m.getLsbD 0 then decodeTransport draw frame a else a
  let a := if m.getLsbD 1 then decodeTrackStatus draw frame a else a
  let a := if m.getLsbD 2 then decodeTimeStatus frame a else a
  let a := if m.getLsbD 3 then decodeExtendedStatus frame a else a
  if m.getLsbD 5 then logUnknown frame a else a

end Sys2Proof.Machine
end

