-- ==== Sys2Proof/Machine/Ops.lean ====
section
/-! DEFINITION. The named operations every instruction's meaning is built from: one symbol into the RX registers
(41_assembler.md), the end of a sequence with its drop or delivery (60_exceptions.md), START and TICK
(43_serializer.md), RESET (70_reset_and_hazards.md), and a whole clock cycle (10_state.md R33). -/

namespace Sys2Proof.Machine

/-- The one-cycle strobes are 0 in every cycle but the one after their event (R27). -/
def lowerStrobes (o : Out) : Out :=
  { o with fValid := false, rxDrop := false, txDone := false }

/-- A clock cycle in which no event acts: the strobes of the cycle before end (R27), and so do the adjacent
software's invocations (notes/assumptions/2.md). Every other register keeps its value. -/
def quiet (s : State) : State :=
  { s with out := lowerStrobes s.out, adj := { s.adj with calls := [] } }

/-- `tx_phase = IDLE`: what `s_ready` and `c_ready` say (R11). -/
def idle (s : State) : Bool :=
  s.tx.phase == .idle

/-! ## RX: one pulse -/

/-- A whole byte is appended to `rx_buf`; at `FRAME_MAX` bytes the packing stops (R105, R106). -/
def completeByte (byte : Byte) (r : Rx) : Rx :=
  { r with
    buf := r.buf.setIfInBounds r.len.toNat byte
    len := r.len + 1
    nbits := 0
    sr := 0
    state := if (r.len + 1).toNat = Config.frameMax then .stop else r.state }

/-- A bit symbol in `PACK` (R104, R105). -/
def packBit (b : Bool) (r : Rx) : Rx :=
  if r.nbits.toNat < 7 then { r with sr := shiftIn r.sr b, nbits := r.nbits + 1 }
  else completeByte (shiftIn r.sr b) r

/-- What an accepted symbol does in each state (R103 to R108). -/
def acceptSymbol (sym : Symbol) (r : Rx) : Rx :=
  match r.state with
  | .hunt => if sym = .sync then { r with state := .pack } else r
  | .pack =>
    match symbolBit sym with
    | some b => packBit b r
    | none => { r with state := .stop }
  | .stop => r

/-- The cap (R101), then the count (R102), then the symbol. -/
def takeSymbol (sym : Symbol) (r : Rx) : Rx :=
  if r.count.toNat = Config.pulseCap then { r with ovf := true }
  else acceptSymbol sym { r with count := r.count + 1 }

/-- A symbol taken into the RX registers. -/
def sampleCore (sym : Symbol) (s : State) : State :=
  s.setRx (takeSymbol sym s.rx)

/-- A cycle in which a pulse of that symbol is presented: taken only when `s_ready` (R13, R100). -/
def receiveSymbol (sym : Symbol) (s : State) : State :=
  if idle s then sampleCore sym (quiet s) else quiet s

/-! ## RX: the end of a sequence -/

/-- The RX registers return to their reset values, `rx_buf` apart (R113, last paragraph). -/
def clearRx (r : Rx) : Rx :=
  { r with state := .hunt, count := 0, ovf := false, sr := 0, nbits := 0, len := 0 }

/-- The checks of R110 in their order; `none` where the frame is delivered. -/
def frameVerdict (r : Rx) : DropReason :=
  if r.ovf then .overflow
  else if r.count.toNat < Config.minPulses then .tooShort
  else if r.state = .hunt then .noSync
  else if r.len.toNat = 0 then .empty
  else if r.buf[0] ≠ Config.lead then .badLead
  else .none

/-- The frame the buffer holds: `rx_buf[k]` for `k < rx_len` (R22). -/
def frameOf (r : Rx) : List Byte :=
  r.buf.toList.take r.len.toNat

/-- A drop: the reason goes to `rx_drop_reason`, `rx_drop` pulses, the frame outputs keep their values (R17, R110,
R201), the RX registers are cleared (R113). -/
def dropFrame (reason : DropReason) (s : State) : State :=
  { s with rx := clearRx s.rx, out := { s.out with rxDrop := true, rxDropReason := reason } }

/-- `f_bytes` after a delivery: the frame's bytes, and a free value at every index at or past the length (R16, U3;
notes/assumptions/4.md). -/
def deliveredBytes (draw : Nat) (r : Rx) : Vector Byte 16 :=
  Vector.ofFn fun k => if k.val < r.len.toNat then r.buf[k] else Config.freeByte draw (20 + k.val)

/-- A delivery (R113): the frame, its length and its match vector to the output registers, `f_valid` pulses, the
decoders of the adjacent software run (R175), the RX registers are cleared. -/
def deliverFrame (s : State) : State :=
  let frame := frameOf s.rx
  let m := dispatch s.rx.len.toNat frame
  { s with
    rx := clearRx s.rx
    out := { s.out with fValid := true, fLen := s.rx.len, fBytes := deliveredBytes s.draws s.rx, fMatch := m }
    adj := runDecoders s.draws frame m s.adj
    draws := s.draws + 1 }

/-- The end of a sequence: drop or deliver (R109, R110). -/
def endFrame (s : State) : State :=
  match frameVerdict s.rx with
  | .none => deliverFrame s
  | reason => dropFrame reason s

/-- A cycle in which `s_end` is presented: taken only when `s_ready` (R13, R109). -/
def frameEndCycle (s : State) : State :=
  if idle s then endFrame (quiet s) else quiet s

/-- The samples of a list presented one a cycle. -/
def runSamples (ds : List Duration) (s : State) : State :=
  ds.foldl (fun t d => receiveSymbol (classify d) t) s

/-- A whole frame arrives on the wire: its nominal pulses (R61, R63), then the end of the sequence
(notes/assumptions/8.md). -/
def receiveFrame (frame : List Byte) (s : State) : State :=
  frameEndCycle (runSamples (framePulses frame) s)

/-! ## TX: START -/

/-- The TX registers a START writes (R137). -/
def startTx (o : StartOperands) : Tx :=
  { phase := .pre
    timer := BitVec.ofNat 13 Config.tPre
    buf := #v[o.b0, o.b1, o.b2, o.b3]
    len := 2 + o.np.setWidth 3
    byte := 0
    bit := 7 }

/-- The parameter count is one the document gives a meaning (R82): 3 is refused (R208). -/
def legalCount (o : StartOperands) : Bool :=
  o.np != 3

/-- A cycle with `c_start`: accepted only when `c_ready` and the count is legal; otherwise refused or ignored, which
changes nothing (R14, R137, R151, R208; notes/assumptions/14.md). -/
def startCycle (o : StartOperands) (s : State) : State :=
  if idle s && legalCount o then (quiet s).setTx (startTx o) else quiet s

/-- A call that becomes a START, or is refused before it: then no START is issued and the state does not change (R161;
notes/assumptions/14.md). -/
def callStart (o : Option StartOperands) (s : State) : State :=
  match o with
  | some ops => startCycle ops s
  | none => s

/-! ## TX: TICK -/

/-- The bit at an index of the command being sent. -/
def txBitAt (t : Tx) (byte : BitVec 2) (bit : BitVec 3) : Bool :=
  (t.buf[byte.toNat]'byte.isLt).getLsbD bit.toNat

/-- Entering `BIT_A` for the bit at an index (R141, R143). -/
def enterBit (t : Tx) (byte : BitVec 2) (bit : BitVec 3) : Tx :=
  { t with
    phase := .bitA
    timer := BitVec.ofNat 13 (bitActive (txBitAt t byte bit))
    byte := byte
    bit := bit }

/-- The index of the bit that follows the current one; `none` after the last (R143). -/
def nextPosition (t : Tx) : Option (BitVec 2 × BitVec 3) :=
  if 0 < t.bit.toNat then some (t.byte, t.bit - 1)
  else if t.byte.toNat + 1 < t.len.toNat then some (t.byte + 1, 7)
  else none

/-- Leaving a phase (R139 to R144). Leaving `SETTLE` keeps `tx_buf`, `tx_len`, `tx_byte` and `tx_bit` as R144 says and
R31's table has it; the summaries of R231 and R32 name only the first two (notes/assumptions/25.md, DEDUCED). -/
def leavePhase (t : Tx) : Tx :=
  match t.phase with
  | .idle => t
  | .pre => { t with phase := .syncA, timer := BitVec.ofNat 13 Config.tSyncA }
  | .syncA => { t with phase := .syncI, timer := BitVec.ofNat 13 Config.tIdle }
  | .syncI => { t with phase := .bitA, timer := BitVec.ofNat 13 (bitActive (txBitAt t 0 7)) }
  | .bitA => { t with phase := .bitI, timer := BitVec.ofNat 13 Config.tIdle }
  | .bitI =>
    match nextPosition t with
    | some (byte, bit) => enterBit t byte bit
    | none => { t with phase := .settle, timer := BitVec.ofNat 13 Config.tSettle }
  | .settle => { t with phase := .idle, timer := 0 }

/-- One microsecond in a phase that is not `IDLE`: stay while the timer is above 1, else leave (R138). -/
def tickTx (t : Tx) : Tx :=
  if 1 < t.timer.toNat then { t with timer := t.timer - 1 } else leavePhase t

/-- The TICK that ends `SETTLE` (R144). -/
def endsSettle (t : Tx) : Bool :=
  t.phase == .settle && !(decide (1 < t.timer.toNat))

/-- What a TICK changes (R138, R144, R145). -/
def tickCore (s : State) : State :=
  if idle s then s
  else { s with tx := tickTx s.tx, out := { s.out with txDone := endsSettle s.tx } }

/-- A cycle with `tick_us`. -/
def tickCycle (s : State) : State :=
  tickCore (quiet s)

/-- A number of TICKs. -/
def runTicks : Nat → State → State
  | 0, s => s
  | n + 1, s => runTicks n (tickCycle s)

/-- A symbol of the waveform (R61). -/
inductive TxSymbol where
  /-- the sync pulse and its delimiter -/
  | sync
  /-- a bit pulse and its delimiter -/
  | bit (value : Bool)
  deriving DecidableEq, Repr

/-- The symbol whose first microsecond the next TICK starts: the phase before it is in its last microsecond (R139,
R141, R143). -/
def dueSymbol (t : Tx) : Option TxSymbol :=
  if t.timer.toNat = 1 then
    match t.phase with
    | .pre => some .sync
    | .syncI => some (.bit (txBitAt t 0 7))
    | .bitI => (nextPosition t).map fun p => .bit (txBitAt t p.1 p.2)
    | .idle => none
    | .syncA => none
    | .bitA => none
    | .settle => none
  else none

/-- The TX registers once the due symbol is sent: its active phase entered and left, its delimiter in its last
microsecond (R139 to R143). -/
def symbolSent (t : Tx) : Tx :=
  { leavePhase (leavePhase t) with timer := 1 }

/-- A symbol is sent whole where it is the one that is due; otherwise no such symbol is sent and nothing happens
(notes/assumptions/9.md). -/
def sendSymbol (sym : TxSymbol) (s : State) : State :=
  if dueSymbol s.tx = some sym then (quiet s).setTx (symbolSent s.tx) else s

/-! ## RESET -/

/-- The free value of slot `k` at this draw for each byte of a buffer (R31, U4; notes/assumptions/4.md). -/
def freeBytes (draw base n : Nat) : Vector Byte n :=
  Vector.ofFn fun k => Config.freeByte draw (base + k.val)

/-- RESET: every register takes the value of R31; the byte registers are unspecified there and take free values
(R230, U4). The adjacent software, the environment's stimuli and the result of the last operation are no registers
of the block and stay (notes/assumptions/15.md). -/
def resetBlock (s : State) : State :=
  { s with
    rx := { Rx.reset with buf := freeBytes s.draws 0 16 }
    tx := { Tx.reset with buf := freeBytes s.draws 16 4 }
    out := { Out.reset with fBytes := freeBytes s.draws 20 16 }
    adj := { s.adj with calls := [] }
    draws := s.draws + 1 }

/-! ## A whole clock cycle -/

/-- The events of one clock cycle: RESET alone; otherwise SAMPLE, FRAME_END, START, TICK, each enabled on the state at
the start of the cycle (R33, R212). -/
def cycle (p : PortInputs) (s : State) : State :=
  if p.rst then resetBlock s
  else
    let ready := idle s
    let s0 := quiet s
    let s1 := if p.sValid && ready then sampleCore (classify p.sDur) s0 else s0
    let s2 := if p.sEnd && ready then endFrame s1 else s1
    let s3 := if p.cStart && ready && legalCount p.cmd then s2.setTx (startTx p.cmd) else s2
    if p.tick && !ready then tickCore s3 else s3

/-! ## Output ports -/

/-- `rx_state` as its 2 bits (R18). -/
def rxStateCode : RxState → BitVec 2
  | .hunt => 0
  | .pack => 1
  | .stop => 2

/-- `tx_phase` as its 3 bits (R23). -/
def txPhaseCode : TxPhase → BitVec 3
  | .idle => 0
  | .pre => 1
  | .syncA => 2
  | .syncI => 3
  | .bitA => 4
  | .bitI => 5
  | .settle => 6

/-- `rx_drop_reason` as its 3 bits (R201). -/
def dropReasonCode : DropReason → BitVec 3
  | .none => 0
  | .overflow => 1
  | .tooShort => 2
  | .noSync => 3
  | .empty => 4
  | .badLead => 5

/-- `tx_drive` as a function of the phase (R15, R150). -/
def driveOf : TxPhase → Bool
  | .syncA => true
  | .bitA => true
  | .idle => false
  | .pre => false
  | .syncI => false
  | .bitI => false
  | .settle => false

/-- The output ports (R11). -/
structure PortOutputs where
  sReady : Bool
  fValid : Bool
  fLen : BitVec 5
  fBytes : Vector Byte 16
  fMatch : BitVec 6
  rxDrop : Bool
  rxDropReason : BitVec 3
  cReady : Bool
  txBusy : Bool
  txDrive : Bool
  txDone : Bool
  deriving DecidableEq, Repr

/-- What the output ports show in a state (R11, R15, R28). -/
def outputs (s : State) : PortOutputs :=
  { sReady := idle s, fValid := s.out.fValid, fLen := s.out.fLen, fBytes := s.out.fBytes, fMatch := s.out.fMatch,
    rxDrop := s.out.rxDrop, rxDropReason := dropReasonCode s.out.rxDropReason, cReady := idle s,
    txBusy := !(idle s), txDrive := driveOf s.tx.phase, txDone := s.out.txDone }

end Sys2Proof.Machine
end

