-- ==== Sys2Proof/Machine/Commands.lean ====
section
/-! DEFINITION. The command formats CMD2, CMD3, CMD4: START of that command (30_encoding.md R70, R82, 43_serializer.md
R137). The bytes a format lacks are 00, as `sendCommand` fills them (R156; notes/assumptions/10.md). -/

namespace Sys2Proof.Machine

/-- CMD2: `np` = 0 (R70). -/
def execCmd2 (device cmd : Byte) (s : State) : Host.Outcome State Fault Refusal :=
  .next (startCycle ⟨0, device, cmd, 0, 0⟩ s)

/-- CMD3: `np` = 1 (R70). -/
def execCmd3 (device cmd p : Byte) (s : State) : Host.Outcome State Fault Refusal :=
  .next (startCycle ⟨1, device, cmd, p, 0⟩ s)

/-- CMD4: `np` = 2 (R70). -/
def execCmd4 (device cmd p q : Byte) (s : State) : Host.Outcome State Fault Refusal :=
  .next (startCycle ⟨2, device, cmd, p, q⟩ s)

end Sys2Proof.Machine
end

