-- ==== Sys2Proof/Machine/Constructors.lean ====
section
/-! DEFINITION. The command constructors: calls that become a START (44_command_builder.md). -/

namespace Sys2Proof.Machine

/-- sendCommand (R156). -/
def execSendCommand (device cmd : Byte) (params : Params) (s : State) : Host.Outcome State Fault Refusal :=
  .next (callStart (some (sendCommand device cmd params)) s)

/-- The operands of a playDisc row whose discs are `lo` to `hi`: those of the call, and none outside the row's range
(R157, R161). -/
def playDiscIn (lo hi player disc track : Nat) : Option StartOperands :=
  if lo ≤ disc ∧ disc ≤ hi then playDisc player disc track else none

/-- playDisc_p1_low: player 1, discs 1 to 200 (R157, R158). -/
def execPlayDiscP1Low (disc track : Nat) (s : State) : Host.Outcome State Fault Refusal :=
  .next (callStart (playDiscIn 1 200 1 disc track) s)

/-- playDisc_p1_high: player 1, discs 201 to 300 (R157, R158). -/
def execPlayDiscP1High (disc track : Nat) (s : State) : Host.Outcome State Fault Refusal :=
  .next (callStart (playDiscIn 201 300 1 disc track) s)

/-- playDisc_p2_low: player 2, discs 1 to 200 (R157, R158). -/
def execPlayDiscP2Low (disc track : Nat) (s : State) : Host.Outcome State Fault Refusal :=
  .next (callStart (playDiscIn 1 200 2 disc track) s)

/-- playDisc_p2_high: player 2, discs 201 to 300 (R157, R158). -/
def execPlayDiscP2High (disc track : Nat) (s : State) : Host.Outcome State Fault Refusal :=
  .next (callStart (playDiscIn 201 300 2 disc track) s)

/-- play() (R162). -/
def execPlay (s : State) : Host.Outcome State Fault Refusal :=
  .next (callStart (some (namedCommand Config.cmdPlay)) s)

/-- stop() (R162). -/
def execStop (s : State) : Host.Outcome State Fault Refusal :=
  .next (callStart (some (namedCommand Config.cmdStop)) s)

/-- pause() (R162). -/
def execPause (s : State) : Host.Outcome State Fault Refusal :=
  .next (callStart (some (namedCommand Config.cmdPause)) s)

/-- nextTrack() (R162). -/
def execNextTrack (s : State) : Host.Outcome State Fault Refusal :=
  .next (callStart (some (namedCommand Config.cmdNext)) s)

/-- prevTrack() (R162). -/
def execPrevTrack (s : State) : Host.Outcome State Fault Refusal :=
  .next (callStart (some (namedCommand Config.cmdPrev)) s)

/-- powerOn() (R162). -/
def execPowerOn (s : State) : Host.Outcome State Fault Refusal :=
  .next (callStart (some (namedCommand Config.cmdPowerOn)) s)

/-- powerOff() (R162). -/
def execPowerOff (s : State) : Host.Outcome State Fault Refusal :=
  .next (callStart (some (namedCommand Config.cmdPowerOff)) s)

end Sys2Proof.Machine
end

