-- ==== Sys2Proof/Machine/Events.lean ====
section
/-! DEFINITION. The five events of 00_scope.md R6, each a clock cycle with that input alone (notes/assumptions/2.md). -/

namespace Sys2Proof.Machine

/-- RESET (R230). -/
def execReset (s : State) : Host.Outcome State Fault Refusal :=
  .next (resetBlock s)

/-- SAMPLE d (R100 to R108). -/
def execSample (d : Duration) (s : State) : Host.Outcome State Fault Refusal :=
  .next (receiveSymbol (classify d) s)

/-- FRAME_END (R109 to R113). -/
def execFrameEnd (s : State) : Host.Outcome State Fault Refusal :=
  .next (frameEndCycle s)

/-- START np b0 b1 b2 b3 (R137, R151, R208). -/
def execStart (np : BitVec 2) (b0 b1 b2 b3 : Byte) (s : State) : Host.Outcome State Fault Refusal :=
  .next (startCycle ⟨np, b0, b1, b2, b3⟩ s)

/-- TICK (R138 to R145). -/
def execTick (s : State) : Host.Outcome State Fault Refusal :=
  .next (tickCycle s)

end Sys2Proof.Machine
end

