-- ==== Sys2Proof/Machine/Operations.lean ====
section
/-! DEFINITION. The combinational operations: no register is read or written (40_classifier.md R90, 42_dispatcher.md
R120); the result stands in the model's own field `opResult` (notes/assumptions/11.md). -/

namespace Sys2Proof.Machine

/-- CLASSIFY d (R90). -/
def execClassify (d : Duration) (s : State) : Host.Outcome State Fault Refusal :=
  .next (s.setOpResult (.symbol (classify d)))

/-- DISPATCH len frame (R120). -/
def execDispatch (frame : List Byte) (s : State) : Host.Outcome State Fault Refusal :=
  .next (s.setOpResult (.vector (dispatch frame.length frame)))

end Sys2Proof.Machine
end

