-- ==== Sys2Proof/Machine/RxFrames.lean ====
section
/-! DEFINITION. Received frames, rows FRAME_*: the whole pulse sequence of the frame arrives and ends
(30_encoding.md R63 to R69, 42_dispatcher.md R121 to R126; notes/assumptions/8.md). -/

namespace Sys2Proof.Machine

/-- FRAME_TRANSPORT (R65, R121). -/
def execFrameTransport (second : Bool) (code : Byte) (s : State) : Host.Outcome State Fault Refusal :=
  .next (receiveFrame (transportFrame second code) s)

/-- FRAME_TRACKSTATUS (R66, R122). -/
def execFrameTrackstatus (device : Byte) (payload : List Byte) (s : State) : Host.Outcome State Fault Refusal :=
  .next (receiveFrame (trackStatusFrame device payload) s)

/-- FRAME_TIMESTATUS (R67, R123). -/
def execFrameTimestatus (device : Byte) (payload : List Byte) (s : State) : Host.Outcome State Fault Refusal :=
  .next (receiveFrame (timeStatusFrame device payload) s)

/-- FRAME_EXTENDEDSTATUS (R68, R124). -/
def execFrameExtendedstatus (device : Byte) (payload : List Byte) (s : State) : Host.Outcome State Fault Refusal :=
  .next (receiveFrame (extendedStatusFrame device payload) s)

/-- FRAME_HEARTBEAT (R69, R125). -/
def execFrameHeartbeat (s : State) : Host.Outcome State Fault Refusal :=
  .next (receiveFrame heartbeatFrame s)

/-- FRAME_UNKNOWN (R79, R126). -/
def execFrameUnknown (frame : List Byte) (s : State) : Host.Outcome State Fault Refusal :=
  .next (receiveFrame frame s)

end Sys2Proof.Machine
end

