-- ==== Sys2Proof/Machine/RxSymbols.lean ====
section
/-! DEFINITION. Received symbols, rows RXSYM_*: a cycle in which a pulse that classifies as the row's symbol is
presented (40_classifier.md R91 to R95, 41_assembler.md R100; notes/assumptions/7.md). The symbol alone matters (R62). -/

namespace Sys2Proof.Machine

/-- RXSYM_ZERO (R94). -/
def execRxsymZero (_d : Duration) (s : State) : Host.Outcome State Fault Refusal :=
  .next (receiveSymbol .zero s)

/-- RXSYM_ONE (R93). -/
def execRxsymOne (_d : Duration) (s : State) : Host.Outcome State Fault Refusal :=
  .next (receiveSymbol .one s)

/-- RXSYM_SYNC (R92). -/
def execRxsymSync (_d : Duration) (s : State) : Host.Outcome State Fault Refusal :=
  .next (receiveSymbol .sync s)

/-- RXSYM_NOISE (R95). -/
def execRxsymNoise (_d : Duration) (s : State) : Host.Outcome State Fault Refusal :=
  .next (receiveSymbol .noise s)

/-- RXSYM_GAP (R91). -/
def execRxsymGap (_d : Duration) (s : State) : Host.Outcome State Fault Refusal :=
  .next (receiveSymbol .gap s)

end Sys2Proof.Machine
end

