-- ==== Sys2Proof/Machine/TxSymbols.lean ====
section
/-! DEFINITION. Sent symbols, rows TXSYM_*: the symbol that is due is sent whole (30_encoding.md R61, 43_serializer.md
R139 to R143; notes/assumptions/9.md). -/

namespace Sys2Proof.Machine

/-- TXSYM_SYNC: `SYNC_A` 2400 then `SYNC_I` 600 (R139, R140). -/
def execTxsymSync (s : State) : Host.Outcome State Fault Refusal :=
  .next (sendSymbol .sync s)

/-- TXSYM_ONE: `BIT_A` 1200 then `BIT_I` 600 (R141 to R143). -/
def execTxsymOne (s : State) : Host.Outcome State Fault Refusal :=
  .next (sendSymbol (.bit true) s)

/-- TXSYM_ZERO: `BIT_A` 600 then `BIT_I` 600 (R141 to R143). -/
def execTxsymZero (s : State) : Host.Outcome State Fault Refusal :=
  .next (sendSymbol (.bit false) s)

end Sys2Proof.Machine
end

