-- ==== Sys2Proof/Machine/Dispatch.lean ====
section
/-! DEFINITION. One arm per row of spec/opcode_table.json: the instruction's meaning. -/

namespace Sys2Proof.Machine

def exec (i : Instr) (s : State) : Host.Outcome State Fault Refusal :=
  match i with
  | .rxsymZero d => Sys2Proof.Machine.execRxsymZero d s
  | .rxsymOne d => Sys2Proof.Machine.execRxsymOne d s
  | .rxsymSync d => Sys2Proof.Machine.execRxsymSync d s
  | .rxsymNoise d => Sys2Proof.Machine.execRxsymNoise d s
  | .rxsymGap d => Sys2Proof.Machine.execRxsymGap d s
  | .frameTransport second code => Sys2Proof.Machine.execFrameTransport second code s
  | .frameTrackstatus device payload => Sys2Proof.Machine.execFrameTrackstatus device payload s
  | .frameTimestatus device payload => Sys2Proof.Machine.execFrameTimestatus device payload s
  | .frameExtendedstatus device payload => Sys2Proof.Machine.execFrameExtendedstatus device payload s
  | .frameHeartbeat => Sys2Proof.Machine.execFrameHeartbeat s
  | .frameUnknown frame => Sys2Proof.Machine.execFrameUnknown frame s
  | .txsymSync => Sys2Proof.Machine.execTxsymSync s
  | .txsymOne => Sys2Proof.Machine.execTxsymOne s
  | .txsymZero => Sys2Proof.Machine.execTxsymZero s
  | .cmd2 device cmd => Sys2Proof.Machine.execCmd2 device cmd s
  | .cmd3 device cmd p => Sys2Proof.Machine.execCmd3 device cmd p s
  | .cmd4 device cmd p q => Sys2Proof.Machine.execCmd4 device cmd p q s
  | .sendCommand device cmd params => Sys2Proof.Machine.execSendCommand device cmd params s
  | .playDiscP1Low disc track => Sys2Proof.Machine.execPlayDiscP1Low disc track s
  | .playDiscP1High disc track => Sys2Proof.Machine.execPlayDiscP1High disc track s
  | .playDiscP2Low disc track => Sys2Proof.Machine.execPlayDiscP2Low disc track s
  | .playDiscP2High disc track => Sys2Proof.Machine.execPlayDiscP2High disc track s
  | .play => Sys2Proof.Machine.execPlay s
  | .stop => Sys2Proof.Machine.execStop s
  | .pause => Sys2Proof.Machine.execPause s
  | .nextTrack => Sys2Proof.Machine.execNextTrack s
  | .prevTrack => Sys2Proof.Machine.execPrevTrack s
  | .powerOn => Sys2Proof.Machine.execPowerOn s
  | .powerOff => Sys2Proof.Machine.execPowerOff s
  | .reset => Sys2Proof.Machine.execReset s
  | .sample d => Sys2Proof.Machine.execSample d s
  | .frameEnd => Sys2Proof.Machine.execFrameEnd s
  | .start np b0 b1 b2 b3 => Sys2Proof.Machine.execStart np b0 b1 b2 b3 s
  | .tick => Sys2Proof.Machine.execTick s
  | .classify d => Sys2Proof.Machine.execClassify d s
  | .dispatch frame => Sys2Proof.Machine.execDispatch frame s

end Sys2Proof.Machine
end

