-- ==== Sys2Proof/Machine/Fetch.lean ====
section
/-! DEFINITION. What the environment presents next. There is no program, no fetch and no program counter (R6, R29):
the environment chooses the events, and its choices stand in `pending` (notes/assumptions/1.md). -/

namespace Sys2Proof.Machine

/-- What the next step runs. -/
inductive Fetched where
  /-- nothing is presented: a clock cycle with every input low -/
  | nothing
  /-- an instruction -/
  | instr (i : Instr)
  /-- a word that spells no instruction -/
  | undecodable (why : DecodeError)
  /-- a clock cycle with these inputs (R33) -/
  | ports (p : PortInputs)
  /-- a playDisc call that is refused before any START (R161) -/
  | refusedCall
  deriving DecidableEq, Repr

/-- The instruction a word spells. -/
def fetchWord (channel : Channel) (bytes : List Byte) : Fetched :=
  match decode channel bytes with
  | .ok i => .instr i
  | .error why => .undecodable why

/-- A playDisc call with any arguments: the row it is, or a refused call (R157, R161). -/
def fetchCall (player disc track : Nat) : Fetched :=
  match playDiscRow player disc track with
  | some i => .instr i
  | none => .refusedCall

/-- The first pending stimulus. -/
def fetch (s : State) : Fetched :=
  match s.pending with
  | [] => .nothing
  | .word channel bytes :: _ => fetchWord channel bytes
  | .ports p :: _ => .ports p
  | .playDiscCall player disc track :: _ => fetchCall player disc track

/-- The state once the first pending stimulus is taken. -/
def consume (s : State) : State :=
  s.setPending s.pending.tail

/-- The state with a bare word of the opcode table as the next stimulus. -/
def presentWord (s : State) (nbits w : Nat) : State :=
  s.setPending (.word (tableWord nbits w).1 (tableWord nbits w).2 :: s.pending)

end Sys2Proof.Machine
end

