-- ==== Sys2Proof/Machine/Step.lean ====
section
/-! DEFINITION. One step: the next thing the environment presents takes effect (00_scope.md R6, 10_state.md R33). -/

namespace Sys2Proof.Machine

/-- One step. Nothing pending is a clock cycle with every input low; a refused playDisc call changes nothing but the
list of stimuli. -/
def step (s : State) : Host.Outcome State Fault Refusal :=
  match fetch s with
  | .nothing => .next (quiet s)
  | .instr i => exec i (consume s)
  | .undecodable why => .refused (.undecodable why)
  | .ports p => .next (cycle p (consume s))
  | .refusedCall => .next (consume s)

/-- `s` with the instruction whose bits are `w` presented next. -/
def State.withFetchWord (s : State) (nbits w : Nat) : State :=
  presentWord s nbits w

end Sys2Proof.Machine
end

