-- ==== Sys2Proof/Machine/Sequences.lean ====
section
/-! DEFINITION. The functions over whole sequences (00_scope.md R7): `rxFrame` (41_assembler.md R114), `serialize` and
the duration of a command (43_serializer.md R146, R147). The event rules and these agree; the agreement is a theorem. -/

namespace Sys2Proof.Machine

/-- The outcome of one pulse sequence (R27, R114). -/
inductive RxOutcome where
  /-- no frame, for this reason -/
  | drop (reason : DropReason)
  /-- a frame, with its match vector -/
  | frame (bytes : List Byte) (m : BitVec 6)
  deriving DecidableEq, Repr

/-- The symbols after the first Sync; `none` where there is no Sync (R114). -/
def afterSync : List Symbol → Option (List Symbol)
  | [] => none
  | sym :: rest => if sym = .sync then some rest else afterSync rest

/-- The bits of the leading run of bit symbols (R114). -/
def leadingBits : List Symbol → List Bool
  | [] => []
  | sym :: rest =>
    match symbolBit sym with
    | some b => b :: leadingBits rest
    | none => []

/-- Whole bytes of a list of bits, at most `n`; a trailing partial byte is discarded (R111, R114). -/
def chunkBytes : Nat → List Bool → List Byte
  | 0, _ => []
  | n + 1, bits =>
    if bits.length < 8 then [] else packByte (bits.take 8) :: chunkBytes n (bits.drop 8)

/-- The bytes a symbol list assembles to, the document's `assemble` less the lead-byte test; `none` where there is no
Sync (R114). -/
def assemble (syms : List Symbol) : Option (List Byte) :=
  (afterSync syms).map fun rest => chunkBytes Config.frameMax (leadingBits rest)

/-- `rxFrame(ds)`, for a given `PULSE_CAP` (R114). -/
def rxFrame (cap : Nat) (ds : List Duration) : RxOutcome :=
  let taken := ds.take cap
  if cap < ds.length then .drop .overflow
  else if taken.length < Config.minPulses then .drop .tooShort
  else match assemble (taken.map classify) with
    | none => .drop .noSync
    | some [] => .drop .empty
    | some (b :: bs) =>
      if b ≠ Config.lead then .drop .badLead
      else .frame (b :: bs) (dispatch (b :: bs).length (b :: bs))

/-- The outcome the output registers show in the cycle after a FRAME_END (R16, R17, R27). -/
def shownOutcome (o : Out) : Option RxOutcome :=
  if o.fValid then some (.frame (o.fBytes.toList.take o.fLen.toNat) o.fMatch)
  else if o.rxDrop then some (.drop o.rxDropReason)
  else none

/-- A segment of the TX waveform: whether the output is active, and for how many microseconds (R146). -/
abbrev Segment := Bool × Nat

/-- `serialize(bytes)` (R146). -/
def serialize (bytes : List Byte) : List Segment :=
  [(false, Config.tPre), (true, Config.tSyncA), (false, Config.tIdle)] ++
    (bytes.flatMap fun b => (byteBits b).flatMap fun v => [(true, bitActive v), (false, Config.tIdle)]) ++
    [(false, Config.tSettle)]

/-- The level of the segment that covers microsecond `k`, counted from 1; idle past the end (R146). -/
def levelAt : List Segment → Nat → Bool
  | [], _ => false
  | (level, n) :: rest, k => if k ≤ n then level else levelAt rest (k - n)

/-- The durations of the active segments, in order: what a perfect front end would measure (R146). -/
def activeDurations (segs : List Segment) : List Duration :=
  segs.filterMap fun seg => if seg.1 then some (BitVec.ofNat durW seg.2) else none

/-- `popcount(b)` (R8). -/
def popcount (b : Byte) : Nat :=
  ((byteBits b).map fun v => if v then 1 else 0).sum

/-- `T(bytes)`: microseconds from START to Done (R147). -/
def commandTime (bytes : List Byte) : Nat :=
  5000 + 3000 + (bytes.map fun b => 9600 + 600 * popcount b).sum + 2000

/-- The bytes of a command that are sent: the first `2 + np` (R137). -/
def sentBytes (o : StartOperands) : List Byte :=
  [o.b0, o.b1, o.b2, o.b3].take (2 + o.np.toNat)

end Sys2Proof.Machine
end

