-- ==== Sys2Proof/Safety.lean ====
section
/-! DEFINITION. The states a run can be in, as the spec bounds them (10_state.md R18 to R26, 41_assembler.md R115,
45_adjacent_decoders.md R176), and the words statements use for parts of a state. -/

namespace Sys2Proof.Safety

open Sys2Proof.Machine

/-- The bounds of the RX registers: `rx_count` never exceeds the cap (R19), the overflow mark stands only at the cap
(R20, R101), nothing is packed before a Sync (R18, R103), every packed bit was counted, and only the low `rx_nbits`
bits of `rx_sr` carry information (R21). -/
abbrev RxInv (r : Rx) : Prop :=
  r.count.toNat ≤ Config.pulseCap ∧
  (r.ovf = true → r.count.toNat = Config.pulseCap) ∧
  (r.state = .hunt → r.nbits = 0 ∧ r.len = 0 ∧ r.sr = 0) ∧
  (r.state ≠ .hunt → 8 * r.len.toNat + r.nbits.toNat + 1 ≤ r.count.toNat) ∧
  r.sr.toNat < 2 ^ r.nbits.toNat

/-- The length of a TX phase in microseconds (R135). -/
def phaseTime (t : Tx) : Nat :=
  match t.phase with
  | .idle => 0
  | .pre => Config.tPre
  | .syncA => Config.tSyncA
  | .syncI => Config.tIdle
  | .bitA => bitActive (txBitAt t t.byte t.bit)
  | .bitI => Config.tIdle
  | .settle => Config.tSettle

/-- The bounds of the TX registers: the timer is between 1 and the phase's length in every phase but `IDLE` and 0 in
`IDLE` (R24), a command has 2 to 4 bytes while busy (R25), the byte index stays inside it (R29), the first bit is bit 7
of byte 0 and the settle delay follows bit 0 of the last byte (R141, R143). -/
abbrev TxInv (t : Tx) : Prop :=
  (t.phase = .idle → t.timer = 0) ∧
  (t.phase ≠ .idle → 1 ≤ t.timer.toNat ∧ t.timer.toNat ≤ phaseTime t ∧ 2 ≤ t.len.toNat ∧ t.len.toNat ≤ 4 ∧
    t.byte.toNat < t.len.toNat) ∧
  (t.phase = .pre ∨ t.phase = .syncA ∨ t.phase = .syncI → t.byte = 0 ∧ t.bit = 7) ∧
  (t.phase = .settle → t.byte.toNat + 1 = t.len.toNat ∧ t.bit = 0)

/-- The frame the output port holds: `f_bytes[0 .. f_len-1]` (R16). -/
def heldFrame (o : Out) : List Byte :=
  o.fBytes.toList.take o.fLen.toNat

/-- The bounds of the output registers: a held frame has at most 16 bytes, starts with 0x41 and carries its own match
vector (R16, R113, R115); before the first delivery the vector is 0 (R31); the two RX strobes exclude each other, a
drop has a reason (R17), and a valid frame is not empty. -/
abbrev OutInv (o : Out) : Prop :=
  o.fLen.toNat ≤ Config.frameMax ∧
  (o.fLen = 0 → o.fMatch = 0) ∧
  (o.fLen ≠ 0 → frameByte (heldFrame o) 0 = Config.lead ∧ o.fMatch = dispatch o.fLen.toNat (heldFrame o)) ∧
  ¬ (o.fValid = true ∧ o.rxDrop = true) ∧
  (o.rxDrop = true → o.rxDropReason ≠ .none) ∧
  (o.fValid = true → o.fLen ≠ 0)

/-- The bounds of the adjacent record: at most one of the three flags, a disc number in 1..300, a track number in 1..99,
a player in 0..2 (R176). -/
abbrev AdjInv (a : Adjacent) : Prop :=
  ¬ (a.status.playing = true ∧ a.status.paused = true) ∧
  ¬ (a.status.playing = true ∧ a.status.stopped = true) ∧
  ¬ (a.status.paused = true ∧ a.status.stopped = true) ∧
  (a.status.discNumber.all fun n => 1 ≤ n && n ≤ 300) = true ∧
  (a.status.trackNumber.all fun n => 1 ≤ n && n ≤ 99) = true ∧
  a.status.player ≤ 2

/-- The invariant of the machine. -/
abbrev Inv (s : State) : Prop :=
  RxInv s.rx ∧ TxInv s.tx ∧ OutInv s.out ∧ AdjInv s.adj

/-- The RX registers hold nothing of a sequence: they are at their reset values, `rx_buf` apart (R31, R231). -/
abbrev RxClean (r : Rx) : Prop :=
  r.state = .hunt ∧ r.count = 0 ∧ r.ovf = false ∧ r.sr = 0 ∧ r.nbits = 0 ∧ r.len = 0

/-- A list of instructions run one after the other, stopping at the first that has no next state. -/
def runAll : List Instr → State → Host.Outcome State Fault Refusal
  | [], s => .next s
  | i :: is, s =>
    match exec i s with
    | .next t => runAll is t
    | .fault r => .fault r
    | .refused r => .refused r

/-- An instruction delivers a frame (R113, R16): the output registers hold the frame and the match vector, `f_valid`
pulses, the RX registers are at their reset values but for the stale bytes in `rx_buf`, and everything outside the RX
registers, the output registers, the adjacent software and the draw counter is unchanged. -/
def Delivers (i : Instr) (s : State) (frame : List Byte) (m : BitVec 6) : Prop :=
  ∃ t, exec i s = .next t ∧
    t.out.fValid = true ∧ t.out.fLen.toNat = frame.length ∧ heldFrame t.out = frame ∧ t.out.fMatch = m ∧
    t.out.rxDrop = false ∧ t.out.rxDropReason = s.out.rxDropReason ∧ t.out.txDone = false ∧
    RxClean t.rx ∧ t.rx.buf.toList.take frame.length = frame ∧
    t.rx.buf.toList.drop frame.length = s.rx.buf.toList.drop frame.length ∧
    t.tx = s.tx ∧ t.opResult = s.opResult ∧ t.pending = s.pending

/-- An instruction drops the sequence for a reason (R17, R110): the frame outputs keep their values, `rx_drop` pulses,
the RX registers but for `rx_buf` are at their reset values, and everything else is unchanged. -/
def Drops (i : Instr) (s : State) (reason : DropReason) : Prop :=
  exec i s = .next
    { quiet s with
      rx := { s.rx with state := .hunt, count := 0, ovf := false, sr := 0, nbits := 0, len := 0 }
      out := { (quiet s).out with rxDrop := true, rxDropReason := reason } }

/-- The TX registers that start a command: `PRE` for 5000 microseconds, the first bit of the first byte next (R137). -/
def startedTx (len : BitVec 3) (b0 b1 b2 b3 : Byte) : Tx :=
  { phase := .pre, timer := 5000, buf := #v[b0, b1, b2, b3], len := len, byte := 0, bit := 7 }

end Sys2Proof.Safety
end

