-- ==== Sys2Proof/Certificates/Slice0/Obligations.lean ====
section
/-! DEFINITION. The statements for the provers. -/

open Sys2Proof Sys2Proof.Machine Sys2Proof.Safety

/-- For every well-formed instruction, decoding its encoded word on its own channel gives that instruction back, with every operand at every value (the channels, event numbers and byte order of durations are the model's own, notes/assumptions/12.md). (R62, R64, R65, R66, R67, R68, R69, R70, R61, R157) -/
def Obligations.DecodeEncode : Prop :=
  ∀ i : Instr, i.wellFormed = true → decode (channelOf i) (encode i) = .ok i

/-- On every channel but playDisc, a word that decodes to an instruction is exactly the encoding of that instruction, on that instruction's channel, and the instruction is well-formed. The bytes of frames, commands and symbols are the rules'; the channels, the numbers of events, operations and named commands and the byte order of durations are the model's choice (notes/assumptions/12.md; R83 gives events no encoding), and playDisc words stand apart because the model does not test their command byte (notes/assumptions/13.md). (R62, R64, R65, R66, R67, R68, R69, R70, R61) -/
def Obligations.EncodeDecode : Prop :=
  ∀ (c : Channel) (bytes : List Byte) (i : Instr), c ≠ .playDisc → decode c bytes = .ok i →
    channelOf i = c ∧ encode i = bytes ∧ i.wellFormed = true

/-- On the playDisc channel every word of four bytes whose first is 0x90, 0x93, 0x92 or 0x95 decodes. Where the disc byte is the disc byte of a disc in the row's range and the track byte the packed BCD of a track in 0..99, the instruction is exactly that row with that disc and track. Where no such disc and track exist it leaves every state unchanged. That byte 1 is not tested, and that bytes outside the encodings are read as arguments R161 refuses, is the model's choice (notes/assumptions/13.md). (R73, R74, R76, R158, R161) -/
def Obligations.PlayDiscWords : Prop :=
  ∀ dev cmd disc track : Byte, dev = 0x90 ∨ dev = 0x93 ∨ dev = 0x92 ∨ dev = 0x95 →
    ∃ i : Instr, decode .playDisc [dev, cmd, disc, track] = .ok i ∧
      (∀ d t : Nat, disc = discByte d → track = bcd t → t ≤ 99 →
        (1 ≤ d → d ≤ 200 → (dev = 0x90 → i = .playDiscP1Low d t) ∧ (dev = 0x92 → i = .playDiscP2Low d t)) ∧
        (201 ≤ d → d ≤ 300 → (dev = 0x93 → i = .playDiscP1High d t) ∧ (dev = 0x95 → i = .playDiscP2High d t))) ∧
      ((¬ ∃ d t : Nat, disc = discByte d ∧ track = bcd t ∧ t ≤ 99 ∧
          ((dev = 0x90 ∨ dev = 0x92) ∧ 1 ≤ d ∧ d ≤ 200 ∨ (dev = 0x93 ∨ dev = 0x95) ∧ 201 ≤ d ∧ d ≤ 300)) →
        ∀ s : State, exec i s = .next s)

/-- The words 41 40 00 04, 41 04 00 55, 41 45 00 00, 90 00, the pulse of 1200 microseconds, the sync symbol 2400/600 and the table words 0x41400000, 0x93003207 decode to their rows. The forms of the pulse and sync-symbol words are the model's (notes/assumptions/12.md), so is the reading of a bare table word (notes/assumptions/21.md), and the second byte 00 of 0x93003207 is not tested (notes/assumptions/13.md). (R61, R62, R65, R69, R70, R73, R74, R76, R79, R126) -/
def Obligations.SpecWordsDecode : Prop :=
  decode .rxFrame [0x41, 0x40, 0x00, 0x04] = .ok (.frameTransport false 0x04) ∧
  decode .rxFrame [0x41, 0x04, 0x00, 0x55] = .ok .frameHeartbeat ∧
  decode .rxFrame [0x41, 0x45, 0x00, 0x00] = .ok (.frameUnknown [0x41, 0x45, 0x00, 0x00]) ∧
  decode .txCommand [0x90, 0x00] = .ok (.cmd2 0x90 0x00) ∧
  decode .rxPulse [0x00, 0x00, 0x04, 0xB0] = .ok (.rxsymOne 1200) ∧
  decode .txPulse [0x09, 0x60, 0x02, 0x58] = .ok .txsymSync ∧
  decodeTableWord 32 0x41400000 = some (.frameTransport false 0x00) ∧
  decodeTableWord 32 0x93003207 = some (.playDiscP1High 250 7)

/-- Where the first pending stimulus is a word that decodes to an instruction, step is exec of that instruction on the state with that stimulus taken from the list; the same for a bare table word presented by withFetchWord (the list of stimuli is the model's own, notes/assumptions/1.md). (R6) -/
def Obligations.StepRunsDecoded : Prop :=
  (∀ (s : State) (c : Channel) (bytes : List Byte) (rest : List Stimulus) (i : Instr),
    s.pending = .word c bytes :: rest → decode c bytes = .ok i → step s = exec i (s.setPending rest)) ∧
  (∀ (s : State) (nbits w : Nat) (i : Instr), decodeTableWord nbits w = some i →
    step (s.withFetchWord nbits w) = exec i s)

/-- With nothing pending a step is a quiet clock cycle; a cycle of port inputs is that cycle; a word that does not decode is refused by name; a playDisc call is its row's instruction, or, where the arguments are out of range, changes nothing but the list of stimuli. The list of stimuli is the model's own (notes/assumptions/1.md); that an undecodable word is refused by name is the model's choice (notes/assumptions/12.md), and that a refused call takes no clock cycle is its reading (notes/assumptions/14.md). (R33, R157, R161) -/
def Obligations.StepOtherStimuli : Prop :=
  (∀ s : State, s.pending = [] → step s = .next (quiet s)) ∧
  (∀ (s : State) (p : PortInputs) (rest : List Stimulus), s.pending = .ports p :: rest →
    step s = .next (cycle p (s.setPending rest))) ∧
  (∀ (s : State) (c : Channel) (bytes : List Byte) (rest : List Stimulus) (e : DecodeError),
    s.pending = .word c bytes :: rest → decode c bytes = .error e → step s = .refused (.undecodable e)) ∧
  (∀ (s : State) (player disc track : Nat) (rest : List Stimulus),
    s.pending = .playDiscCall player disc track :: rest →
    ¬ ((player = 1 ∨ player = 2) ∧ 1 ≤ disc ∧ disc ≤ 300 ∧ track ≤ 99) → step s = .next (s.setPending rest)) ∧
  (∀ (s : State) (disc track : Nat) (rest : List Stimulus), 1 ≤ disc → disc ≤ 300 → track ≤ 99 →
    (s.pending = .playDiscCall 1 disc track :: rest →
      step s = exec (if disc ≤ 200 then .playDiscP1Low disc track else .playDiscP1High disc track)
        (s.setPending rest)) ∧
    (s.pending = .playDiscCall 2 disc track :: rest →
      step s = exec (if disc ≤ 200 then .playDiscP2Low disc track else .playDiscP2High disc track)
        (s.setPending rest)))

/-- No instruction faults and none is refused, whatever the operands and the state. (R200) -/
def Obligations.NothingStopsTheBlock : Prop :=
  ∀ (i : Instr) (s : State), ∃ t, exec i s = .next t

/-- A clock cycle in which no event acts lowers f_valid, rx_drop and tx_done, ends the adjacent software's invocations (the model's own list, notes/assumptions/2.md) and changes nothing else. (R27) -/
def Obligations.QuietCycle : Prop :=
  ∀ s : State, quiet s =
    { s with
      out := { s.out with fValid := false, rxDrop := false, txDone := false }
      adj := { s.adj with calls := [] } }

/-- Zero up to 899, One 900 to 1999, Sync 2000 to 4999, Noise 5000 to 200000, Gap from 200001; One and Zero are the bit symbols of value 1 and 0. (R62) -/
def Obligations.ClassifyRanges : Prop :=
  (∀ d : Duration,
    (classify d = .zero ↔ d.toNat ≤ 899) ∧
    (classify d = .one ↔ 900 ≤ d.toNat ∧ d.toNat ≤ 1999) ∧
    (classify d = .sync ↔ 2000 ≤ d.toNat ∧ d.toNat ≤ 4999) ∧
    (classify d = .noise ↔ 5000 ≤ d.toNat ∧ d.toNat ≤ 200000) ∧
    (classify d = .gap ↔ 200001 ≤ d.toNat)) ∧
  symbolBit .zero = some false ∧ symbolBit .one = some true ∧ symbolBit .sync = none ∧
  symbolBit .noise = none ∧ symbolBit .gap = none

/-- CLASSIFY d leaves everything as it is but the result field (the model's own, notes/assumptions/11.md), which holds the symbol of d. (R90, R91, R92, R93, R94, R95) -/
def Obligations.ClassifyCompletes : Prop :=
  ∀ (d : Duration) (s : State),
    (d.toNat ≤ 899 → exec (.classify d) s = .next { s with opResult := .symbol .zero }) ∧
    (900 ≤ d.toNat → d.toNat ≤ 1999 → exec (.classify d) s = .next { s with opResult := .symbol .one }) ∧
    (2000 ≤ d.toNat → d.toNat ≤ 4999 → exec (.classify d) s = .next { s with opResult := .symbol .sync }) ∧
    (5000 ≤ d.toNat → d.toNat ≤ 200000 → exec (.classify d) s = .next { s with opResult := .symbol .noise }) ∧
    (200001 ≤ d.toNat → exec (.classify d) s = .next { s with opResult := .symbol .gap })

/-- DISPATCH of any frame leaves everything as it is but the result field (the model's own, notes/assumptions/11.md), which holds a vector whose bits 0 to 5 say exactly whether the frame has the shape of a Transport, TrackStatus, TimeStatus, ExtendedStatus, Heartbeat or none of these. (R120, R121, R122, R123, R124, R125, R126) -/
def Obligations.DispatchCompletes : Prop :=
  ∀ (frame : List Byte) (s : State), ∃ m : BitVec 6,
    exec (.dispatch frame) s = .next { s with opResult := .vector m } ∧
    (m.getLsbD 0 = true ↔ ∃ dev code, (dev = 0x40 ∨ dev = 0x44) ∧ frame = [0x41, dev, 0x00, code]) ∧
    (m.getLsbD 1 = true ↔ ∃ dev payload, payload.length = 8 ∧ frame = 0x41 :: dev :: 0x11 :: 0x00 :: payload) ∧
    (m.getLsbD 2 = true ↔ ∃ dev payload, payload.length = 8 ∧ frame = 0x41 :: dev :: 0x11 :: 0x01 :: payload) ∧
    (m.getLsbD 3 = true ↔ ∃ dev payload, payload.length = 10 ∧ frame = 0x41 :: dev :: 0x15 :: 0x00 :: payload) ∧
    (m.getLsbD 4 = true ↔ frame = [0x41, 0x04, 0x00, 0x55]) ∧
    (m.getLsbD 5 = true ↔ m.getLsbD 0 = false ∧ m.getLsbD 1 = false ∧ m.getLsbD 2 = false ∧ m.getLsbD 3 = false ∧
      m.getLsbD 4 = false)

/-- Whatever the length and the bytes, exactly one bit of the match vector is set. (R127) -/
def Obligations.DispatchOneHot : Prop :=
  ∀ (len : Nat) (frame : List Byte), ∃ k : Fin 6, ∀ j : Fin 6,
    (dispatch len frame).getLsbD j.val = true ↔ j = k

/-- With the block idle and rx_count at PULSE_CAP = 128 (the default, notes/assumptions/6.md), SAMPLE of any duration sets rx_ovf and changes no other register but the strobes. (R101) -/
def Obligations.SampleAtCap : Prop :=
  ∀ (d : Duration) (s : State), s.tx.phase = .idle → s.rx.count = 128 →
    exec (.sample d) s = .next { quiet s with rx := { s.rx with ovf := true } }

/-- Below the cap every sample is counted; a Sync moves HUNT to PACK and any other symbol leaves HUNT; nothing is packed. (R102, R103) -/
def Obligations.SampleInHunt : Prop :=
  ∀ (d : Duration) (s : State), s.tx.phase = .idle → s.rx.count ≠ 128 → s.rx.state = .hunt →
    exec (.sample d) s = .next
      { quiet s with
        rx := { s.rx with
          count := s.rx.count + 1
          state := if 2000 ≤ d.toNat ∧ d.toNat ≤ 4999 then .pack else .hunt } }

/-- Below the cap a One or Zero with rx_nbits below 7 shifts its bit into rx_sr from below and counts it. (R102, R104) -/
def Obligations.SampleBitInPack : Prop :=
  ∀ (d : Duration) (s : State), s.tx.phase = .idle → s.rx.count ≠ 128 → s.rx.state = .pack → s.rx.nbits.toNat < 7 →
    d.toNat ≤ 1999 →
    exec (.sample d) s = .next
      { quiet s with
        rx := { s.rx with
          count := s.rx.count + 1
          sr := s.rx.sr <<< 1 ||| (if 900 ≤ d.toNat then 1 else 0)
          nbits := s.rx.nbits + 1 } }

/-- Below the cap a One or Zero with rx_nbits = 7 appends the byte to rx_buf at rx_len, clears rx_nbits and rx_sr, and stops the packing where the new length is 16; every other byte of the buffer is unchanged. (R102, R105, R106) -/
def Obligations.SampleEighthBit : Prop :=
  ∀ (d : Duration) (s : State), s.tx.phase = .idle → s.rx.count ≠ 128 → s.rx.state = .pack → s.rx.nbits = 7 →
    s.rx.len.toNat < 16 → d.toNat ≤ 1999 →
    ∃ t, exec (.sample d) s = .next t ∧
      t = { quiet s with
        rx := { s.rx with
          count := s.rx.count + 1
          sr := 0
          nbits := 0
          len := s.rx.len + 1
          buf := t.rx.buf
          state := if s.rx.len.toNat = 15 then .stop else .pack } } ∧
      (∀ (k : Nat) (h : k < 16), t.rx.buf[k] =
        if k = s.rx.len.toNat then s.rx.sr <<< 1 ||| (if 900 ≤ d.toNat then 1 else 0) else s.rx.buf[k])

/-- Below the cap a Sync, Noise or Gap stops the packing; rx_sr, rx_nbits, rx_buf and rx_len are unchanged. (R102, R107) -/
def Obligations.SampleNonBitInPack : Prop :=
  ∀ (d : Duration) (s : State), s.tx.phase = .idle → s.rx.count ≠ 128 → s.rx.state = .pack → 2000 ≤ d.toNat →
    exec (.sample d) s = .next { quiet s with rx := { s.rx with count := s.rx.count + 1, state := .stop } }

/-- Below the cap every symbol after the stop is counted and otherwise ignored. (R102, R108) -/
def Obligations.SampleInStop : Prop :=
  ∀ (d : Duration) (s : State), s.tx.phase = .idle → s.rx.count ≠ 128 → s.rx.state = .stop →
    exec (.sample d) s = .next { quiet s with rx := { s.rx with count := s.rx.count + 1 } }

/-- With the block idle and rx_count below the cap: RXSYM_SYNC in HUNT enters PACK and the other symbols leave HUNT; in PACK RXSYM_ZERO and RXSYM_ONE shift in 0 and 1 (rx_nbits below 7) and RXSYM_SYNC, RXSYM_NOISE, RXSYM_GAP stop the packing; every symbol is counted and nothing else changes but the strobes (that such a row is the reception of the symbol is the model's reading, notes/assumptions/7.md). (R91, R92, R93, R94, R95, R103, R104, R107) -/
def Obligations.RxsymEffects : Prop :=
  ∀ (d : Duration) (s : State), s.tx.phase = .idle → s.rx.count ≠ 128 →
    (s.rx.state = .hunt →
      exec (.rxsymSync d) s = .next { quiet s with rx := { s.rx with count := s.rx.count + 1, state := .pack } } ∧
      exec (.rxsymZero d) s = .next { quiet s with rx := { s.rx with count := s.rx.count + 1 } } ∧
      exec (.rxsymOne d) s = .next { quiet s with rx := { s.rx with count := s.rx.count + 1 } } ∧
      exec (.rxsymNoise d) s = .next { quiet s with rx := { s.rx with count := s.rx.count + 1 } } ∧
      exec (.rxsymGap d) s = .next { quiet s with rx := { s.rx with count := s.rx.count + 1 } }) ∧
    (s.rx.state = .pack → s.rx.nbits.toNat < 7 →
      exec (.rxsymZero d) s = .next { quiet s with
        rx := { s.rx with count := s.rx.count + 1, sr := s.rx.sr <<< 1, nbits := s.rx.nbits + 1 } } ∧
      exec (.rxsymOne d) s = .next { quiet s with
        rx := { s.rx with count := s.rx.count + 1, sr := s.rx.sr <<< 1 ||| 1, nbits := s.rx.nbits + 1 } }) ∧
    (s.rx.state = .pack →
      exec (.rxsymSync d) s = .next { quiet s with rx := { s.rx with count := s.rx.count + 1, state := .stop } } ∧
      exec (.rxsymNoise d) s = .next { quiet s with rx := { s.rx with count := s.rx.count + 1, state := .stop } } ∧
      exec (.rxsymGap d) s = .next { quiet s with rx := { s.rx with count := s.rx.count + 1, state := .stop } })

/-- Every well-formed RXSYM row does in every state, busy or at the cap included, what SAMPLE of its duration does. That the row is the reception of such a pulse is the model's reading of the table (DEDUCED, notes/assumptions/7.md); no rule says it. (R62, R96, R100) -/
def Obligations.RxsymIsSample : Prop :=
  ∀ (d : Duration) (s : State),
    ((Instr.rxsymZero d).wellFormed = true → exec (.rxsymZero d) s = exec (.sample d) s) ∧
    ((Instr.rxsymOne d).wellFormed = true → exec (.rxsymOne d) s = exec (.sample d) s) ∧
    ((Instr.rxsymSync d).wellFormed = true → exec (.rxsymSync d) s = exec (.sample d) s) ∧
    ((Instr.rxsymNoise d).wellFormed = true → exec (.rxsymNoise d) s = exec (.sample d) s) ∧
    ((Instr.rxsymGap d).wellFormed = true → exec (.rxsymGap d) s = exec (.sample d) s)

/-- With the block idle: OVERFLOW where rx_ovf is set; else TOO_SHORT below 3 samples; else NO_SYNC in HUNT; else EMPTY without a whole byte; else BAD_LEAD where the first byte is not 0x41. The frame outputs keep their values, rx_drop pulses with the reason, the RX registers but rx_buf return to their reset values. (R110, R211, R17) -/
def Obligations.FrameEndDrops : Prop :=
  ∀ s : State, s.tx.phase = .idle →
    (s.rx.ovf = true → Drops .frameEnd s .overflow) ∧
    (s.rx.ovf = false → s.rx.count.toNat < 3 → Drops .frameEnd s .tooShort) ∧
    (s.rx.ovf = false → 3 ≤ s.rx.count.toNat → s.rx.state = .hunt → Drops .frameEnd s .noSync) ∧
    (s.rx.ovf = false → 3 ≤ s.rx.count.toNat → s.rx.state ≠ .hunt → s.rx.len = 0 → Drops .frameEnd s .empty) ∧
    (s.rx.ovf = false → 3 ≤ s.rx.count.toNat → s.rx.state ≠ .hunt → s.rx.len ≠ 0 → s.rx.buf[0] ≠ 0x41 →
      Drops .frameEnd s .badLead)

/-- With the block idle, no overflow, at least 3 samples, a Sync seen, 1 to 16 whole bytes and the first byte 0x41, FRAME_END puts length, bytes and match vector on the output registers, pulses f_valid, clears the RX registers but rx_buf, and leaves the TX registers, rx_drop_reason, the result field and the stimuli unchanged. (R113, R16, R110) -/
def Obligations.FrameEndDelivers : Prop :=
  ∀ s : State, s.tx.phase = .idle → s.rx.ovf = false → 3 ≤ s.rx.count.toNat → s.rx.state ≠ .hunt →
    1 ≤ s.rx.len.toNat → s.rx.len.toNat ≤ 16 → s.rx.buf[0] = 0x41 →
    ∃ t, exec .frameEnd s = .next t ∧
      t.out.fValid = true ∧ t.out.fLen = s.rx.len ∧
      (∀ (k : Nat) (h : k < 16), k < s.rx.len.toNat → t.out.fBytes[k] = s.rx.buf[k]) ∧
      t.out.fMatch = dispatch s.rx.len.toNat (s.rx.buf.toList.take s.rx.len.toNat) ∧
      t.out.rxDrop = false ∧ t.out.rxDropReason = s.out.rxDropReason ∧ t.out.txDone = false ∧
      t.rx = { s.rx with state := .hunt, count := 0, ovf := false, sr := 0, nbits := 0, len := 0 } ∧
      t.tx = s.tx ∧ t.opResult = s.opResult ∧ t.pending = s.pending

/-- From RX registers at their reset values with the block idle, SAMPLE of every duration of a list followed by FRAME_END gives the outcome rxFrame of the list, for PULSE_CAP = 128 (the default, a choice of the model, notes/assumptions/6.md), and leaves the RX registers at their reset values. (R114) -/
def Obligations.RxFrameAgrees : Prop :=
  ∀ (s : State) (ds : List Duration), s.tx.phase = .idle → RxClean s.rx →
    ∃ t, runAll (ds.map Instr.sample ++ [.frameEnd]) s = .next t ∧
      shownOutcome t.out = some (rxFrame 128 ds) ∧ RxClean t.rx ∧ t.tx = s.tx

/-- With the block idle and the RX registers clean, each FRAME row delivers exactly its bytes with its one match bit: Transport bit 0, TrackStatus 1, TimeStatus 2, ExtendedStatus 3, Heartbeat 4, Unknown (1 to 15 bytes) 5 (that such a row is the arrival of the frame's whole pulse sequence is the model's reading, notes/assumptions/8.md). (R121, R122, R123, R124, R125, R126, R113, R63) -/
def Obligations.FrameRowsDeliver : Prop :=
  ∀ s : State, s.tx.phase = .idle → RxClean s.rx →
    (∀ second code, Delivers (.frameTransport second code) s
      [0x41, if second then 0x44 else 0x40, 0x00, code] 0b000001#6) ∧
    (∀ device payload, payload.length = 8 → Delivers (.frameTrackstatus device payload) s
      (0x41 :: device :: 0x11 :: 0x00 :: payload) 0b000010#6) ∧
    (∀ device payload, payload.length = 8 → Delivers (.frameTimestatus device payload) s
      (0x41 :: device :: 0x11 :: 0x01 :: payload) 0b000100#6) ∧
    (∀ device payload, payload.length = 10 → Delivers (.frameExtendedstatus device payload) s
      (0x41 :: device :: 0x15 :: 0x00 :: payload) 0b001000#6) ∧
    Delivers .frameHeartbeat s [0x41, 0x04, 0x00, 0x55] 0b010000#6 ∧
    (∀ frame, (Instr.frameUnknown frame).wellFormed = true → frame.length ≤ 15 →
      Delivers (.frameUnknown frame) s frame 0b100000#6)

/-- With the block idle and the RX registers clean, the pulse sequence of a well-formed unknown frame of 16 bytes has 129 pulses and ends in a drop with reason OVERFLOW; the frame outputs keep their values. That the row is the arrival of those pulses and FRAME_END is the model's reading (notes/assumptions/8.md), the cap of 128 its choice (notes/assumptions/6.md). (R106, R101) -/
def Obligations.SixteenByteFrameOverflows : Prop :=
  ∀ (s : State) (frame : List Byte), s.tx.phase = .idle → RxClean s.rx →
    (Instr.frameUnknown frame).wellFormed = true → frame.length = 16 →
    (framePulses frame).length = 129 ∧
    ∃ t, exec (.frameUnknown frame) s = .next t ∧ t.out.rxDrop = true ∧ t.out.rxDropReason = .overflow ∧
      t.out.fValid = false ∧ t.out.fLen = s.out.fLen ∧ t.out.fBytes = s.out.fBytes ∧ t.out.fMatch = s.out.fMatch ∧
      RxClean t.rx ∧ t.tx = s.tx

/-- In every state each FRAME row does what SAMPLE of the nominal durations of its bytes (2400, then 1200 or 600 per bit, most significant bit first) followed by FRAME_END does. That a frame row is this sequence of events is the model's reading of the table (DEDUCED, notes/assumptions/8.md); R61 and R63 give the durations and their order. (R61, R63) -/
def Obligations.FrameRowIsItsPulses : Prop :=
  ∀ (i : Instr) (s : State), channelOf i = .rxFrame →
    exec i s = runAll
      (.sample 2400 ::
        ((encode i).flatMap fun b => (List.range 8).map fun k =>
          Instr.sample (if b.getLsbD (7 - k) then 1200 else 600)) ++ [.frameEnd]) s

/-- A Transport frame received with the block idle and the RX registers clean sets exactly one of playing, paused, stopped by its code 0x00, 0x04, 0x01, leaves them for any other code, invokes onTransport with the code, and changes nothing else of the adjacent software but haveStatus, whose value is free (notes/assumptions/16.md). That the decoder runs, and its call stands, in the step of the delivery is the model's choice (notes/assumptions/15.md), that the row is the whole reception its reading (notes/assumptions/8.md). (R175, R177) -/
def Obligations.TransportDecoded : Prop :=
  ∀ (s : State) (second : Bool) (code : Byte), s.tx.phase = .idle → RxClean s.rx →
    ∃ t, exec (.frameTransport second code) s = .next t ∧
      t.adj.calls = [.onTransport code] ∧
      (code = 0x00 → t.adj.status.playing = true ∧ t.adj.status.paused = false ∧ t.adj.status.stopped = false) ∧
      (code = 0x04 → t.adj.status.playing = false ∧ t.adj.status.paused = true ∧ t.adj.status.stopped = false) ∧
      (code = 0x01 → t.adj.status.playing = false ∧ t.adj.status.paused = false ∧ t.adj.status.stopped = true) ∧
      (code ≠ 0x00 → code ≠ 0x04 → code ≠ 0x01 → t.adj.status.playing = s.adj.status.playing ∧
        t.adj.status.paused = s.adj.status.paused ∧ t.adj.status.stopped = s.adj.status.stopped) ∧
      t.adj = { s.adj with
        calls := t.adj.calls
        status := { s.adj.status with
          playing := t.adj.status.playing
          paused := t.adj.status.paused
          stopped := t.adj.status.stopped
          haveStatus := t.adj.status.haveStatus } }

/-- A TrackStatus frame received with the block idle and the RX registers clean decodes the two codes at their OPEN positions, their indices, the player and disc number by the device byte (an unknown device gives player 0 and no disc number), the track number; the status observer is invoked with that record whether or not the signature changed, the diagnostic line is logged exactly where the payload differs from the signature held, and the three flags are unchanged. The model's choices in it: the code positions are opaque (notes/assumptions/17.md), the decoder runs in the step of the delivery (notes/assumptions/15.md), the log line comes before the observer and carries the payload (notes/assumptions/24.md); its readings: the row is the whole reception (notes/assumptions/8.md), the sentinel -1 is none (notes/assumptions/19.md). (R181, R184, R185, R186, R187) -/
def Obligations.TrackStatusDecoded : Prop :=
  ∀ (s : State) (device : Byte) (payload : List Byte), s.tx.phase = .idle → RxClean s.rx → payload.length = 8 →
    ∃ t, exec (.frameTrackstatus device payload) s = .next t ∧
      t.adj.status.discCode = payload.getD Config.discCodePos.hi.val 0 ++ payload.getD Config.discCodePos.lo.val 0 ∧
      t.adj.status.trackCode = payload.getD Config.trackCodePos.hi.val 0 ++ payload.getD Config.trackCodePos.lo.val 0 ∧
      t.adj.status.discIndex = decodeIndexFromCode t.adj.status.discCode.toNat 300 ∧
      t.adj.status.trackIndex = decodeIndexFromCode t.adj.status.trackCode.toNat 300 ∧
      t.adj.status.trackNumber = t.adj.status.trackIndex.bind num99 ∧
      (device = 0x40 → t.adj.status.player = 1 ∧ t.adj.status.discNumber = t.adj.status.discIndex.bind discLow) ∧
      (device = 0x45 → t.adj.status.player = 1 ∧ t.adj.status.discNumber = t.adj.status.discIndex.bind discHigh) ∧
      (device = 0x44 → t.adj.status.player = 2 ∧ t.adj.status.discNumber = t.adj.status.discIndex.bind discLow) ∧
      (device = 0x51 → t.adj.status.player = 2 ∧ t.adj.status.discNumber = t.adj.status.discIndex.bind discHigh) ∧
      (device ≠ 0x40 → device ≠ 0x45 → device ≠ 0x44 → device ≠ 0x51 →
        t.adj.status.player = 0 ∧ t.adj.status.discNumber = none) ∧
      t.adj.status.playing = s.adj.status.playing ∧ t.adj.status.paused = s.adj.status.paused ∧
      t.adj.status.stopped = s.adj.status.stopped ∧
      t.adj.lastSignature = some payload ∧
      t.adj.calls = (if s.adj.lastSignature = some payload then [] else [.signatureLog payload]) ++
        [.onStatus t.adj.status]

/-- Received with the block idle and the RX registers clean: a TimeStatus frame keeps the digits that decodeDigit reads at the minute and second positions of its payload, an ExtendedStatus frame the player and the disc-range flag of its payload, and neither changes anything else of the adjacent software or invokes anything; the heartbeat changes nothing there; an unknown frame of at most 15 bytes is handed to the logger as raw bytes and changes nothing else. The positions and layouts are opaque (OPEN, the model's form of them: notes/assumptions/17.md); that the decoders run in the step of the delivery is the model's choice (notes/assumptions/15.md), that a row is the whole reception its reading (notes/assumptions/8.md), and the bound of 15 bytes rests on the cap of 128 (notes/assumptions/6.md). (R188, R189, R190, R191) -/
def Obligations.OtherDecodersKeepStatus : Prop :=
  ∀ s : State, s.tx.phase = .idle → RxClean s.rx →
    (∀ device payload, payload.length = 8 → ∃ t, exec (.frameTimestatus device payload) s = .next t ∧
      t.adj = { s.adj with
        calls := []
        minuteDigits := Config.minutePos.map fun k => decodeDigit (payload.getD k.val 0)
        secondDigits := Config.secondPos.map fun k => decodeDigit (payload.getD k.val 0) }) ∧
    (∀ device payload, payload.length = 10 → ∃ t, exec (.frameExtendedstatus device payload) s = .next t ∧
      t.adj = { s.adj with
        calls := []
        extPlayer := Config.extendedPlayer payload
        extHighRange := Config.extendedHighRange payload }) ∧
    (∃ t, exec .frameHeartbeat s = .next t ∧ t.adj = { s.adj with calls := [] }) ∧
    (∀ frame, (Instr.frameUnknown frame).wellFormed = true → frame.length ≤ 15 →
      ∃ t, exec (.frameUnknown frame) s = .next t ∧ t.adj = { s.adj with calls := [.unknownFrame frame] })

/-- Bit p of n is bit 2p of encodeIndex n and every odd bit of encodeIndex n is 0; encodeIndex is injective and, for every n from 1 to the bound of the search, decodeIndexFromCode of encodeIndex n is n; a code that no such n has decodes to none; decodeDigit gives d exactly for the byte that is the code of a d in 0..9 (R191's reading is the spec's own decision D24). (R178, R179, R191) -/
def Obligations.NumeralRoundTrip : Prop :=
  (∀ n p : Nat, (encodeIndex n).testBit (2 * p) = n.testBit p ∧ (encodeIndex n).testBit (2 * p + 1) = false) ∧
  (∀ m n : Nat, encodeIndex m = encodeIndex n → m = n) ∧
  (∀ n bound : Nat, 1 ≤ n → n ≤ bound → decodeIndexFromCode (encodeIndex n) bound = some n) ∧
  (∀ code bound : Nat, (∀ n, 1 ≤ n → n ≤ bound → encodeIndex n ≠ code) → decodeIndexFromCode code bound = none) ∧
  (∀ (b : Byte) (d : Nat), decodeDigit b = some d ↔ d ≤ 9 ∧ encodeIndex d = b.toNat)

/-- For discs 1 to 200 the disc byte is the index that the low-range formula maps back to the disc, for 201 to 300 the index that the high-range formula maps back; the track formula inverts on 1..99. (R164, R180, R182, R183) -/
def Obligations.DiscMapping : Prop :=
  (∀ n : Fin 201, 1 ≤ n.val → discLow (discByte n.val).toNat = some n.val) ∧
  (∀ n : Fin 301, 201 ≤ n.val → discHigh (discByte n.val).toNat = some n.val) ∧
  (∀ n : Fin 100, 1 ≤ n.val → num99 (idx99 n.val) = some n.val ∧ (bcd n.val).toNat = idx99 n.val)

/-- With the block idle and np not 3, START latches the four bytes, sets the length to 2 + np, the indices to byte 0 and bit 7, and enters PRE for 5000 microseconds; nothing else changes but the strobes. (R137) -/
def Obligations.StartAccepted : Prop :=
  ∀ (s : State) (np : BitVec 2) (b0 b1 b2 b3 : Byte), s.tx.phase = .idle → np ≠ 3 →
    ∃ len : BitVec 3, len.toNat = 2 + np.toNat ∧
      exec (.start np b0 b1 b2 b3) s = .next { quiet s with tx := startedTx len b0 b1 b2 b3 }

/-- START with np = 3, and any START, command format, sendCommand, named command or playDisc row in range while the block is busy, changes nothing but the strobes: nothing is latched, nothing is queued, the phase and the timer of the command in progress are not disturbed. R208 says that nothing changes; that such a request is a clock cycle in which the strobes of the cycle before fall is the model's reading (notes/assumptions/14.md, and 2.md, which is unsafe), and so is a CMD row as a START (notes/assumptions/10.md). (R151, R208, R14) -/
def Obligations.StartTurnedAway : Prop :=
  (∀ (s : State) (b0 b1 b2 b3 : Byte), exec (.start 3 b0 b1 b2 b3) s = .next (quiet s)) ∧
  (∀ (s : State) (np : BitVec 2) (b0 b1 b2 b3 : Byte), s.tx.phase ≠ .idle →
    exec (.start np b0 b1 b2 b3) s = .next (quiet s) ∧
    exec (.cmd2 b0 b1) s = .next (quiet s) ∧ exec (.cmd3 b0 b1 b2) s = .next (quiet s) ∧
    exec (.cmd4 b0 b1 b2 b3) s = .next (quiet s) ∧
    (∀ params, exec (.sendCommand b0 b1 params) s = .next (quiet s)) ∧
    exec .play s = .next (quiet s) ∧ exec .stop s = .next (quiet s) ∧ exec .pause s = .next (quiet s) ∧
    exec .nextTrack s = .next (quiet s) ∧ exec .prevTrack s = .next (quiet s) ∧
    exec .powerOn s = .next (quiet s) ∧ exec .powerOff s = .next (quiet s)) ∧
  (∀ (s : State) (disc track : Nat), s.tx.phase ≠ .idle → track ≤ 99 →
    (1 ≤ disc → disc ≤ 200 →
      exec (.playDiscP1Low disc track) s = .next (quiet s) ∧ exec (.playDiscP2Low disc track) s = .next (quiet s)) ∧
    (201 ≤ disc → disc ≤ 300 →
      exec (.playDiscP1High disc track) s = .next (quiet s) ∧ exec (.playDiscP2High disc track) s = .next (quiet s))) ∧
  (∀ s : State, (quiet s).tx = s.tx ∧ (quiet s).rx = s.rx)

/-- With the block idle, CMD2, CMD3, CMD4 and sendCommand with no, one or two parameters start a command of 2, 3 or 4 bytes with exactly the bytes given. The fillers 00 are R156's for sendCommand; that a CMD row is a START, and that CMD2 and CMD3 latch 00 in the bytes their format lacks, is the model's reading (DEDUCED, notes/assumptions/10.md). (R70, R82, R156) -/
def Obligations.CommandRowsStart : Prop :=
  ∀ (s : State) (d c p q : Byte), s.tx.phase = .idle →
    exec (.cmd2 d c) s = .next { quiet s with tx := startedTx 2 d c 0 0 } ∧
    exec (.cmd3 d c p) s = .next { quiet s with tx := startedTx 3 d c p 0 } ∧
    exec (.cmd4 d c p q) s = .next { quiet s with tx := startedTx 4 d c p q } ∧
    exec (.sendCommand d c .none) s = .next { quiet s with tx := startedTx 2 d c 0 0 } ∧
    exec (.sendCommand d c (.one p)) s = .next { quiet s with tx := startedTx 3 d c p 0 } ∧
    exec (.sendCommand d c (.two p q)) s = .next { quiet s with tx := startedTx 4 d c p q }

/-- With the block idle each named command starts the 2-byte command of DEV_DEFAULT and its own command byte, whatever those OPEN bytes are. (R162) -/
def Obligations.NamedCommandsStart : Prop :=
  ∀ s : State, s.tx.phase = .idle →
    exec .play s = .next { quiet s with tx := startedTx 2 Config.devDefault Config.cmdPlay 0 0 } ∧
    exec .stop s = .next { quiet s with tx := startedTx 2 Config.devDefault Config.cmdStop 0 0 } ∧
    exec .pause s = .next { quiet s with tx := startedTx 2 Config.devDefault Config.cmdPause 0 0 } ∧
    exec .nextTrack s = .next { quiet s with tx := startedTx 2 Config.devDefault Config.cmdNext 0 0 } ∧
    exec .prevTrack s = .next { quiet s with tx := startedTx 2 Config.devDefault Config.cmdPrev 0 0 } ∧
    exec .powerOn s = .next { quiet s with tx := startedTx 2 Config.devDefault Config.cmdPowerOn 0 0 } ∧
    exec .powerOff s = .next { quiet s with tx := startedTx 2 Config.devDefault Config.cmdPowerOff 0 0 }

/-- With the block idle and arguments in the row's range, each playDisc row starts the 4-byte command of its device code, CMD_PLAY_DISC (OPEN), the disc byte (BCD of 1..99, disc + 54 for 100..200, disc - 200 for 201..300) and the packed-BCD track. (R157, R158, R159, R160) -/
def Obligations.PlayDiscStarts : Prop :=
  ∀ (s : State) (disc track : Nat), s.tx.phase = .idle → track ≤ 99 →
    ∃ discB trackB : Byte, trackB.toNat = 16 * (track / 10) + track % 10 ∧
      (1 ≤ disc → disc ≤ 99 → discB.toNat = 16 * (disc / 10) + disc % 10) ∧
      (100 ≤ disc → disc ≤ 200 → discB.toNat = disc - 100 + 0x9A) ∧
      (201 ≤ disc → disc ≤ 300 → discB.toNat = disc - 200) ∧
      (1 ≤ disc → disc ≤ 200 →
        exec (.playDiscP1Low disc track) s =
          .next { quiet s with tx := startedTx 4 0x90 Config.cmdPlayDisc discB trackB } ∧
        exec (.playDiscP2Low disc track) s =
          .next { quiet s with tx := startedTx 4 0x92 Config.cmdPlayDisc discB trackB }) ∧
      (201 ≤ disc → disc ≤ 300 →
        exec (.playDiscP1High disc track) s =
          .next { quiet s with tx := startedTx 4 0x93 Config.cmdPlayDisc discB trackB } ∧
        exec (.playDiscP2High disc track) s =
          .next { quiet s with tx := startedTx 4 0x95 Config.cmdPlayDisc discB trackB })

/-- The call has START operands exactly for player 1 or 2, disc 1 to 300 and track 0 to 99; a playDisc row with disc 0, a disc above 300 or a track above 99 leaves every state unchanged. (R161, R208) -/
def Obligations.PlayDiscTurnedAway : Prop :=
  (∀ player disc track : Nat, (playDisc player disc track).isSome = true ↔
    (player = 1 ∨ player = 2) ∧ 1 ≤ disc ∧ disc ≤ 300 ∧ track ≤ 99) ∧
  (∀ (s : State) (disc track : Nat), disc = 0 ∨ 300 < disc ∨ 99 < track →
    exec (.playDiscP1Low disc track) s = .next s ∧ exec (.playDiscP1High disc track) s = .next s ∧
    exec (.playDiscP2Low disc track) s = .next s ∧ exec (.playDiscP2High disc track) s = .next s)

/-- In IDLE a TICK changes nothing but the strobes of the cycle before; in every other phase with tx_timer above 1 it takes 1 from the timer and changes nothing else but those strobes. R145 says that no register changes in IDLE; that the strobes of the cycle before fall in that TICK is the model's reading of it with R27 (DEDUCED, unsafe, notes/assumptions/2.md). (R27, R138, R145) -/
def Obligations.TickStays : Prop :=
  ∀ s : State,
    (s.tx.phase = .idle → exec .tick s = .next (quiet s)) ∧
    (s.tx.phase ≠ .idle → 1 < s.tx.timer.toNat →
      exec .tick s = .next { quiet s with tx := { s.tx with timer := s.tx.timer - 1 } })

/-- The TICK that finds tx_timer = 1 in PRE enters SYNC_A for 2400 microseconds and the output goes active. (R139, R150) -/
def Obligations.TickLeavesPre : Prop :=
  ∀ s : State, s.tx.phase = .pre → s.tx.timer = 1 →
    exec .tick s = .next { quiet s with tx := { s.tx with phase := .syncA, timer := 2400 } } ∧
    driveOf s.tx.phase = false ∧ driveOf .syncA = true

/-- The TICK that finds tx_timer = 1 in SYNC_A enters SYNC_I for 600 microseconds and the output goes idle; nothing else changes but the strobes. (R140) -/
def Obligations.TickLeavesSyncA : Prop :=
  ∀ s : State, s.tx.phase = .syncA → s.tx.timer = 1 →
    exec .tick s = .next { quiet s with tx := { s.tx with phase := .syncI, timer := 600 } } ∧
    driveOf s.tx.phase = true ∧ driveOf .syncI = false

/-- The TICK that finds tx_timer = 1 in SYNC_I enters BIT_A for 1200 microseconds where bit 7 of byte 0 is 1, else 600, and the output goes active; nothing else changes but the strobes. (R141) -/
def Obligations.TickLeavesSyncI : Prop :=
  ∀ s : State, s.tx.phase = .syncI → s.tx.timer = 1 →
    exec .tick s = .next { quiet s with
      tx := { s.tx with phase := .bitA, timer := if s.tx.buf[0].getLsbD 7 then 1200 else 600 } } ∧
    driveOf s.tx.phase = false ∧ driveOf .bitA = true

/-- The TICK that finds tx_timer = 1 in BIT_A enters BIT_I for 600 microseconds, the output goes idle, tx_byte and tx_bit are unchanged; nothing else changes but the strobes. (R142) -/
def Obligations.TickLeavesBitA : Prop :=
  ∀ s : State, s.tx.phase = .bitA → s.tx.timer = 1 →
    exec .tick s = .next { quiet s with tx := { s.tx with phase := .bitI, timer := 600 } } ∧
    driveOf s.tx.phase = true ∧ driveOf .bitI = false

/-- The TICK that finds tx_timer = 1 in BIT_I goes on to the next lower bit of the same byte, else to bit 7 of the next byte, each for 1200 microseconds where the bit is 1 and 600 where it is 0, else to SETTLE for 2000; nothing else changes but the strobes. tx_len is taken to be at most 4, as it is in every run (StepKeepsInv). (R143) -/
def Obligations.TickLeavesBitI : Prop :=
  ∀ s : State, s.tx.phase = .bitI → s.tx.timer = 1 → s.tx.len.toNat ≤ 4 →
    (∀ h : 0 < s.tx.bit.toNat, exec .tick s = .next { quiet s with
      tx := { s.tx with
        phase := .bitA
        bit := s.tx.bit - 1
        timer := if (s.tx.buf[s.tx.byte.toNat]'s.tx.byte.isLt).getLsbD (s.tx.bit.toNat - 1) then 1200 else 600 } }) ∧
    (s.tx.bit = 0 → ∀ h : s.tx.byte.toNat + 1 < s.tx.len.toNat, ∀ h4 : s.tx.byte.toNat + 1 < 4,
      exec .tick s = .next { quiet s with
        tx := { s.tx with
          phase := .bitA
          byte := s.tx.byte + 1
          bit := 7
          timer := if (s.tx.buf[s.tx.byte.toNat + 1]).getLsbD 7 then 1200 else 600 } }) ∧
    (s.tx.bit = 0 → s.tx.len.toNat ≤ s.tx.byte.toNat + 1 →
      exec .tick s = .next { quiet s with tx := { s.tx with phase := .settle, timer := 2000 } })

/-- The TICK that finds tx_timer = 1 in SETTLE returns to IDLE with the timer at 0 and pulses tx_done; tx_buf, tx_len, tx_byte and tx_bit keep their values, as R144 says (R231's shorter list: notes/assumptions/25.md); nothing else changes but the strobes. (R144) -/
def Obligations.TickLeavesSettle : Prop :=
  ∀ s : State, s.tx.phase = .settle → s.tx.timer = 1 →
    exec .tick s = .next { quiet s with
      tx := { s.tx with phase := .idle, timer := 0 }
      out := { (quiet s).out with txDone := true } }

/-- Where PRE is in its last microsecond, TXSYM_SYNC ends with the sync delimiter in its last microsecond and nothing else changed but the strobes, and that is what 3000 TICKs do (that the row is the whole symbol, from the TICK that enters it, is the model's reading, notes/assumptions/9.md). (R61, R139, R140) -/
def Obligations.TxsymSyncIsTicks : Prop :=
  ∀ s : State, s.tx.phase = .pre → s.tx.timer = 1 →
    exec .txsymSync s = .next { quiet s with tx := { s.tx with phase := .syncI, timer := 1 } } ∧
    runAll (List.replicate 3000 .tick) s = exec .txsymSync s

/-- Where the sync delimiter or a bit delimiter is in its last microsecond and the next bit is 1, TXSYM_ONE ends with that bit's delimiter in its last microsecond and nothing else changed but the strobes and, for a bit after the first, the indices; that is what 1800 TICKs do; TXSYM_ZERO is the same for a bit 0 and 1200 TICKs (that a row is the whole symbol is the model's reading, notes/assumptions/9.md). (R61, R141, R142, R143) -/
def Obligations.TxsymBitIsTicks : Prop :=
  ∀ s : State, s.tx.timer = 1 →
    (s.tx.phase = .syncI → s.tx.buf[0].getLsbD 7 = true →
      exec .txsymOne s = .next { quiet s with tx := { s.tx with phase := .bitI } } ∧
      runAll (List.replicate 1800 .tick) s = exec .txsymOne s) ∧
    (s.tx.phase = .syncI → s.tx.buf[0].getLsbD 7 = false →
      exec .txsymZero s = .next { quiet s with tx := { s.tx with phase := .bitI } } ∧
      runAll (List.replicate 1200 .tick) s = exec .txsymZero s) ∧
    (∀ (byte : BitVec 2) (bit : BitVec 3), s.tx.phase = .bitI →
      (0 < s.tx.bit.toNat ∧ byte = s.tx.byte ∧ bit = s.tx.bit - 1) ∨
        (s.tx.bit = 0 ∧ s.tx.byte.toNat + 1 < s.tx.len.toNat ∧ byte = s.tx.byte + 1 ∧ bit = 7) →
      ((s.tx.buf[byte.toNat]'byte.isLt).getLsbD bit.toNat = true →
        exec .txsymOne s = .next { quiet s with tx := { s.tx with phase := .bitI, byte := byte, bit := bit } } ∧
        runAll (List.replicate 1800 .tick) s = exec .txsymOne s) ∧
      ((s.tx.buf[byte.toNat]'byte.isLt).getLsbD bit.toNat = false →
        exec .txsymZero s = .next { quiet s with tx := { s.tx with phase := .bitI, byte := byte, bit := bit } } ∧
        runAll (List.replicate 1200 .tick) s = exec .txsymZero s))

/-- TXSYM_SYNC is due exactly in the last microsecond of PRE; the row of a bit value in the last microsecond of SYNC_I where bit 7 of byte 0 has that value, or in the last microsecond of BIT_I where a next bit follows and has that value. In every other case the row leaves the state unchanged, a symbol of the other value being due and BIT_I after the last bit included (the model's choice, notes/assumptions/9.md). (R139, R141, R143) -/
def Obligations.TxsymNotDue : Prop :=
  ∀ s : State,
    (¬ (s.tx.timer = 1 ∧ s.tx.phase = .pre) → exec .txsymSync s = .next s) ∧
    (∀ v : Bool,
      ¬ (s.tx.timer = 1 ∧ s.tx.phase = .syncI ∧ s.tx.buf[0].getLsbD 7 = v) →
      (¬ ∃ (byte : BitVec 2) (bit : BitVec 3), s.tx.timer = 1 ∧ s.tx.phase = .bitI ∧
        ((0 < s.tx.bit.toNat ∧ byte = s.tx.byte ∧ bit = s.tx.bit - 1) ∨
          (s.tx.bit = 0 ∧ s.tx.byte.toNat + 1 < s.tx.len.toNat ∧ byte = s.tx.byte + 1 ∧ bit = 7)) ∧
        (s.tx.buf[byte.toNat]'byte.isLt).getLsbD bit.toNat = v) →
      exec (if v then .txsymOne else .txsymZero) s = .next s)

/-- After an accepted START, tx_drive during the k-th TICK interval is the level of the segment of serialize that covers microsecond k, for every k up to T(bytes), the block is busy through all of them, and TICK number T(bytes) returns it to IDLE with tx_done; the list has 4 + 16 segments per byte. (R146) -/
def Obligations.WaveformAgrees : Prop :=
  ∀ (s t : State) (np : BitVec 2) (b0 b1 b2 b3 : Byte) (bytes : List Byte), s.tx.phase = .idle → np ≠ 3 →
    exec (.start np b0 b1 b2 b3) s = .next t → bytes = [b0, b1, b2, b3].take (2 + np.toNat) →
    (serialize bytes).length = 4 + 16 * bytes.length ∧
    (∀ k : Nat, 1 ≤ k → k ≤ commandTime bytes →
      ∃ u, runAll (List.replicate (k - 1) .tick) t = .next u ∧ u.tx.phase ≠ .idle ∧
        driveOf u.tx.phase = levelAt (serialize bytes) k) ∧
    (∃ u, runAll (List.replicate (commandTime bytes) .tick) t = .next u ∧ u.tx.phase = .idle ∧ u.out.txDone = true)

/-- The segments of serialize add up to T(bytes); for 2 to 4 bytes that is between 29200 and 67600 microseconds. (R147) -/
def Obligations.CommandDuration : Prop :=
  ∀ bytes : List Byte,
    ((serialize bytes).map fun seg => seg.2).sum = commandTime bytes ∧
    (2 ≤ bytes.length → bytes.length ≤ 4 → 29200 ≤ commandTime bytes ∧ commandTime bytes ≤ 67600)

/-- For a list of 1 to 15 bytes, rxFrame (PULSE_CAP = 128, notes/assumptions/6.md) of the active-pulse durations of its waveform is the frame of exactly those bytes where the first is 0x41 (such an echo passes the filter, R243), and a drop with BAD_LEAD otherwise. (R115, R52, R112) -/
def Obligations.EchoAssembles : Prop :=
  ∀ (b : Byte) (bs : List Byte), (b :: bs).length ≤ 15 →
    rxFrame 128 (activeDurations (serialize (b :: bs))) =
      if b = 0x41 then .frame (b :: bs) (dispatch (b :: bs).length (b :: bs)) else .drop .badLead

/-- While the block is busy no instruction but RESET changes tx_buf or tx_len, and none but RESET and the TICK that ends SETTLE makes it idle; that TICK pulses tx_done. (R148) -/
def Obligations.NoCancellation : Prop :=
  ∀ (i : Instr) (s t : State), s.tx.phase ≠ .idle → i ≠ .reset → exec i s = .next t →
    t.tx.buf = s.tx.buf ∧ t.tx.len = s.tx.len ∧
    (t.tx.phase = .idle → i = .tick ∧ s.tx.phase = .settle ∧ t.out.txDone = true)

/-- While the block is busy no instruction but RESET changes an RX register, and none delivers or drops: f_len, f_bytes, f_match, rx_drop_reason, the TrackStatus record and the draw counter are unchanged. (R50, R149) -/
def Obligations.BusyFreezesRx : Prop :=
  ∀ (i : Instr) (s t : State), s.tx.phase ≠ .idle → i ≠ .reset → exec i s = .next t →
    t.rx = s.rx ∧ t.out.fLen = s.out.fLen ∧ t.out.fBytes = s.out.fBytes ∧ t.out.fMatch = s.out.fMatch ∧
    t.out.rxDropReason = s.out.rxDropReason ∧ t.adj.status = s.adj.status ∧ t.draws = s.draws

/-- SAMPLE, FRAME_END, the received-symbol and the received-frame rows change no TX register; START, TICK, the sent-symbol rows, the command formats and the constructors change no RX register and no held frame output. (R33, R212) -/
def Obligations.RxAndTxAreDisjoint : Prop :=
  ∀ (i : Instr) (s t : State), exec i s = .next t →
    (channelOf i = .rxPulse ∨ channelOf i = .rxFrame ∨ i = .frameEnd ∨ (∃ d, i = .sample d) → t.tx = s.tx) ∧
    (channelOf i = .txPulse ∨ channelOf i = .txCommand ∨ channelOf i = .sendCommand ∨ channelOf i = .playDisc ∨
        channelOf i = .named ∨ i = .tick ∨ (∃ np b0 b1 b2 b3, i = .start np b0 b1 b2 b3) →
      t.rx = s.rx ∧ t.out.fLen = s.out.fLen ∧ t.out.fBytes = s.out.fBytes ∧ t.out.fMatch = s.out.fMatch ∧
      t.out.rxDropReason = s.out.rxDropReason)

/-- RESET, SAMPLE, FRAME_END, START and TICK do what a clock cycle does in which only rst, s_valid, s_end, c_start or tick_us is high, whatever the data inputs (that an event row is one cycle is the model's reading, notes/assumptions/2.md). (R13, R14, R33) -/
def Obligations.EventsAreCycles : Prop :=
  ∀ (s : State) (d : Duration) (o : StartOperands),
    exec .reset s = .next (cycle ⟨true, false, false, d, false, false, o⟩ s) ∧
    exec .tick s = .next (cycle ⟨false, true, false, d, false, false, o⟩ s) ∧
    exec (.sample d) s = .next (cycle ⟨false, false, true, d, false, false, o⟩ s) ∧
    exec .frameEnd s = .next (cycle ⟨false, false, false, d, true, false, o⟩ s) ∧
    exec (.start o.np o.b0 o.b1 o.b2 o.b3) s = .next (cycle ⟨false, false, false, d, false, true, o⟩ s)

/-- With rst high every other input is ignored. Otherwise, idle: a sample in the cycle of s_end belongs to the sequence that ends; a c_start accepted in the same cycle changes only the TX registers and does not stop that FRAME_END; a tick in the cycle of an accepted c_start does not shorten the pre-send delay. Busy: only the tick acts. (R33, R212) -/
def Obligations.CycleOrder : Prop :=
  (∀ (p : PortInputs) (s : State), p.rst = true → exec .reset s = .next (cycle p s)) ∧
  (∀ (s : State) (d : Duration) (o : StartOperands) (tick : Bool), s.tx.phase = .idle →
    exec .frameEnd { s with rx := (cycle ⟨false, false, true, d, false, false, o⟩ s).rx } =
      .next (cycle ⟨false, tick, true, d, true, false, o⟩ s)) ∧
  (∀ (s : State) (d : Duration) (o : StartOperands) (tick sValid sEnd : Bool), s.tx.phase = .idle → o.np ≠ 3 →
    cycle ⟨false, tick, sValid, d, sEnd, true, o⟩ s =
      { cycle ⟨false, false, sValid, d, sEnd, false, o⟩ s with
        tx := startedTx (2 + o.np.setWidth 3) o.b0 o.b1 o.b2 o.b3 }) ∧
  (∀ (p : PortInputs) (s : State), p.rst = false → s.tx.phase ≠ .idle →
    (p.tick = true → exec .tick s = .next (cycle p s)) ∧ (p.tick = false → cycle p s = quiet s))

/-- In every state, a transmission or a pulse sequence in progress included, RESET gives every register its value of the reset table; rx_buf, tx_buf and f_bytes are not constrained (notes/assumptions/4.md); no strobe is given; the adjacent record stays (the model's choice, notes/assumptions/15.md). (R230, R232) -/
def Obligations.ResetEffect : Prop :=
  ∀ s : State, ∃ t, exec .reset s = .next t ∧
    RxClean t.rx ∧
    t.tx.phase = .idle ∧ t.tx.timer = 0 ∧ t.tx.len = 0 ∧ t.tx.byte = 0 ∧ t.tx.bit = 7 ∧
    t.out.fValid = false ∧ t.out.rxDrop = false ∧ t.out.txDone = false ∧ t.out.fLen = 0 ∧ t.out.fMatch = 0 ∧
    t.out.rxDropReason = .none ∧
    (outputs t).txDrive = false ∧ (outputs t).txBusy = false ∧ (outputs t).sReady = true ∧
    (outputs t).cReady = true ∧
    t.adj.status = s.adj.status ∧ t.pending = s.pending

/-- State.reset has every value the reset table gives and the TrackStatus record at creation; no claim is made on the byte registers, which the table leaves unspecified. (R31, R176) -/
def Obligations.ResetState : Prop :=
  RxClean State.reset.rx ∧
  State.reset.tx.phase = .idle ∧ State.reset.tx.timer = 0 ∧ State.reset.tx.len = 0 ∧ State.reset.tx.byte = 0 ∧
  State.reset.tx.bit = 7 ∧
  State.reset.out.fValid = false ∧ State.reset.out.rxDrop = false ∧ State.reset.out.txDone = false ∧
  State.reset.out.fLen = 0 ∧ State.reset.out.fMatch = 0 ∧ State.reset.out.rxDropReason = .none ∧
  (outputs State.reset).txDrive = false ∧ (outputs State.reset).txBusy = false ∧
  (outputs State.reset).sReady = true ∧ (outputs State.reset).cReady = true ∧
  State.reset.adj.status = ⟨false, false, false, false, 0, 0, none, none, none, none, 0⟩

/-- s_ready, c_ready and the negation of tx_busy say that the phase is IDLE; tx_drive is 1 exactly in SYNC_A and BIT_A; the other ports show their registers, rx_drop_reason as its code; NONE, OVERFLOW, TOO_SHORT, NO_SYNC, EMPTY, BAD_LEAD are 0 to 5, HUNT, PACK, STOP 0 to 2, IDLE, PRE, SYNC_A, SYNC_I, BIT_A, BIT_I, SETTLE 0 to 6. (R11, R15, R18, R23, R28, R150, R201) -/
def Obligations.OutputsFollowPhase : Prop :=
  (∀ s : State,
    ((outputs s).sReady = true ↔ s.tx.phase = .idle) ∧ ((outputs s).cReady = true ↔ s.tx.phase = .idle) ∧
    ((outputs s).txBusy = true ↔ s.tx.phase ≠ .idle) ∧
    ((outputs s).txDrive = true ↔ s.tx.phase = .syncA ∨ s.tx.phase = .bitA) ∧
    (outputs s).fValid = s.out.fValid ∧ (outputs s).fLen = s.out.fLen ∧ (outputs s).fBytes = s.out.fBytes ∧
    (outputs s).fMatch = s.out.fMatch ∧ (outputs s).rxDrop = s.out.rxDrop ∧ (outputs s).txDone = s.out.txDone ∧
    (s.out.rxDropReason = .none → (outputs s).rxDropReason = 0) ∧
    (s.out.rxDropReason = .overflow → (outputs s).rxDropReason = 1) ∧
    (s.out.rxDropReason = .tooShort → (outputs s).rxDropReason = 2) ∧
    (s.out.rxDropReason = .noSync → (outputs s).rxDropReason = 3) ∧
    (s.out.rxDropReason = .empty → (outputs s).rxDropReason = 4) ∧
    (s.out.rxDropReason = .badLead → (outputs s).rxDropReason = 5)) ∧
  rxStateCode .hunt = 0 ∧ rxStateCode .pack = 1 ∧ rxStateCode .stop = 2 ∧
  txPhaseCode .idle = 0 ∧ txPhaseCode .pre = 1 ∧ txPhaseCode .syncA = 2 ∧ txPhaseCode .syncI = 3 ∧
  txPhaseCode .bitA = 4 ∧ txPhaseCode .bitI = 5 ∧ txPhaseCode .settle = 6

/-- State.reset satisfies the bounds of the RX, TX and output registers and of the adjacent record. (R31) -/
def Obligations.InvAtReset : Prop :=
  Inv State.reset

/-- From every state with the bounds of the registers, whatever the environment presents, the next state has them: rx_count stays within the cap, the overflow mark stands only at the cap, nothing is packed before a Sync, the timer lies between 1 and the length of its phase while busy and is 0 in IDLE, the indices stay inside a command of 2 to 4 bytes, a held frame has at most 16 bytes, starts with 0x41 and carries its own match vector, and at most one of playing, paused, stopped is true. (R19, R20, R21, R24, R25, R29, R16, R17, R115, R176) -/
def Obligations.StepKeepsInv : Prop :=
  ∀ s t : State, Inv s → step s = .next t → Inv t
end

