-- ==== Sys2Proof/Laws/State.lean ====
section
/-! SUPPORT. One lemma per field per update of State, each true by definition, so that no proof unfolds an update. -/

namespace Sys2Proof.Machine

@[simp] theorem State.setRx_rx (s : State) (v : Rx) : (s.setRx v).rx = v := rfl
@[simp] theorem State.setRx_tx (s : State) (v : Rx) : (s.setRx v).tx = s.tx := rfl
@[simp] theorem State.setRx_out (s : State) (v : Rx) : (s.setRx v).out = s.out := rfl
@[simp] theorem State.setRx_adj (s : State) (v : Rx) : (s.setRx v).adj = s.adj := rfl
@[simp] theorem State.setRx_opResult (s : State) (v : Rx) : (s.setRx v).opResult = s.opResult := rfl
@[simp] theorem State.setRx_pending (s : State) (v : Rx) : (s.setRx v).pending = s.pending := rfl
@[simp] theorem State.setRx_draws (s : State) (v : Rx) : (s.setRx v).draws = s.draws := rfl

@[simp] theorem State.setTx_rx (s : State) (v : Tx) : (s.setTx v).rx = s.rx := rfl
@[simp] theorem State.setTx_tx (s : State) (v : Tx) : (s.setTx v).tx = v := rfl
@[simp] theorem State.setTx_out (s : State) (v : Tx) : (s.setTx v).out = s.out := rfl
@[simp] theorem State.setTx_adj (s : State) (v : Tx) : (s.setTx v).adj = s.adj := rfl
@[simp] theorem State.setTx_opResult (s : State) (v : Tx) : (s.setTx v).opResult = s.opResult := rfl
@[simp] theorem State.setTx_pending (s : State) (v : Tx) : (s.setTx v).pending = s.pending := rfl
@[simp] theorem State.setTx_draws (s : State) (v : Tx) : (s.setTx v).draws = s.draws := rfl

@[simp] theorem State.setOut_rx (s : State) (v : Out) : (s.setOut v).rx = s.rx := rfl
@[simp] theorem State.setOut_tx (s : State) (v : Out) : (s.setOut v).tx = s.tx := rfl
@[simp] theorem State.setOut_out (s : State) (v : Out) : (s.setOut v).out = v := rfl
@[simp] theorem State.setOut_adj (s : State) (v : Out) : (s.setOut v).adj = s.adj := rfl
@[simp] theorem State.setOut_opResult (s : State) (v : Out) : (s.setOut v).opResult = s.opResult := rfl
@[simp] theorem State.setOut_pending (s : State) (v : Out) : (s.setOut v).pending = s.pending := rfl
@[simp] theorem State.setOut_draws (s : State) (v : Out) : (s.setOut v).draws = s.draws := rfl

@[simp] theorem State.setAdj_rx (s : State) (v : Adjacent) : (s.setAdj v).rx = s.rx := rfl
@[simp] theorem State.setAdj_tx (s : State) (v : Adjacent) : (s.setAdj v).tx = s.tx := rfl
@[simp] theorem State.setAdj_out (s : State) (v : Adjacent) : (s.setAdj v).out = s.out := rfl
@[simp] theorem State.setAdj_adj (s : State) (v : Adjacent) : (s.setAdj v).adj = v := rfl
@[simp] theorem State.setAdj_opResult (s : State) (v : Adjacent) : (s.setAdj v).opResult = s.opResult := rfl
@[simp] theorem State.setAdj_pending (s : State) (v : Adjacent) : (s.setAdj v).pending = s.pending := rfl
@[simp] theorem State.setAdj_draws (s : State) (v : Adjacent) : (s.setAdj v).draws = s.draws := rfl

@[simp] theorem State.setOpResult_rx (s : State) (v : OpResult) : (s.setOpResult v).rx = s.rx := rfl
@[simp] theorem State.setOpResult_tx (s : State) (v : OpResult) : (s.setOpResult v).tx = s.tx := rfl
@[simp] theorem State.setOpResult_out (s : State) (v : OpResult) : (s.setOpResult v).out = s.out := rfl
@[simp] theorem State.setOpResult_adj (s : State) (v : OpResult) : (s.setOpResult v).adj = s.adj := rfl
@[simp] theorem State.setOpResult_opResult (s : State) (v : OpResult) : (s.setOpResult v).opResult = v := rfl
@[simp] theorem State.setOpResult_pending (s : State) (v : OpResult) : (s.setOpResult v).pending = s.pending := rfl
@[simp] theorem State.setOpResult_draws (s : State) (v : OpResult) : (s.setOpResult v).draws = s.draws := rfl

@[simp] theorem State.setPending_rx (s : State) (v : List Stimulus) : (s.setPending v).rx = s.rx := rfl
@[simp] theorem State.setPending_tx (s : State) (v : List Stimulus) : (s.setPending v).tx = s.tx := rfl
@[simp] theorem State.setPending_out (s : State) (v : List Stimulus) : (s.setPending v).out = s.out := rfl
@[simp] theorem State.setPending_adj (s : State) (v : List Stimulus) : (s.setPending v).adj = s.adj := rfl
@[simp] theorem State.setPending_opResult (s : State) (v : List Stimulus) : (s.setPending v).opResult = s.opResult := rfl
@[simp] theorem State.setPending_pending (s : State) (v : List Stimulus) : (s.setPending v).pending = v := rfl
@[simp] theorem State.setPending_draws (s : State) (v : List Stimulus) : (s.setPending v).draws = s.draws := rfl

@[simp] theorem State.draw_rx (s : State) : s.draw.rx = s.rx := rfl
@[simp] theorem State.draw_tx (s : State) : s.draw.tx = s.tx := rfl
@[simp] theorem State.draw_out (s : State) : s.draw.out = s.out := rfl
@[simp] theorem State.draw_adj (s : State) : s.draw.adj = s.adj := rfl
@[simp] theorem State.draw_opResult (s : State) : s.draw.opResult = s.opResult := rfl
@[simp] theorem State.draw_pending (s : State) : s.draw.pending = s.pending := rfl
@[simp] theorem State.draw_draws (s : State) : s.draw.draws = s.draws + 1 := rfl

/-- Taking the first stimulus off a list it was just put on gives the list back. -/
@[simp] theorem State.setPending_self (s : State) : s.setPending s.pending = s := rfl

@[simp] theorem State.setPending_setPending (s : State) (p q : List Stimulus) :
    (s.setPending p).setPending q = s.setPending q := rfl

end Sys2Proof.Machine
end

