-- ==== Sys2Proof/Laws/Ops.lean ====
section
/-! SUPPORT. For each shared operation, what it can do, said once; proofs cite these instead of unfolding. -/

namespace Sys2Proof.Machine

/-! ## A quiet cycle -/

@[simp] theorem quiet_rx (s : State) : (quiet s).rx = s.rx := rfl
@[simp] theorem quiet_tx (s : State) : (quiet s).tx = s.tx := rfl
@[simp] theorem quiet_opResult (s : State) : (quiet s).opResult = s.opResult := rfl
@[simp] theorem quiet_pending (s : State) : (quiet s).pending = s.pending := rfl
@[simp] theorem quiet_draws (s : State) : (quiet s).draws = s.draws := rfl
@[simp] theorem quiet_out (s : State) : (quiet s).out = lowerStrobes s.out := rfl
@[simp] theorem quiet_adj_status (s : State) : (quiet s).adj.status = s.adj.status := rfl
@[simp] theorem quiet_adj_calls (s : State) : (quiet s).adj.calls = [] := rfl
@[simp] theorem lowerStrobes_fLen (o : Out) : (lowerStrobes o).fLen = o.fLen := rfl
@[simp] theorem lowerStrobes_fBytes (o : Out) : (lowerStrobes o).fBytes = o.fBytes := rfl
@[simp] theorem lowerStrobes_fMatch (o : Out) : (lowerStrobes o).fMatch = o.fMatch := rfl
@[simp] theorem lowerStrobes_rxDropReason (o : Out) : (lowerStrobes o).rxDropReason = o.rxDropReason := rfl
@[simp] theorem lowerStrobes_fValid (o : Out) : (lowerStrobes o).fValid = false := rfl
@[simp] theorem lowerStrobes_rxDrop (o : Out) : (lowerStrobes o).rxDrop = false := rfl
@[simp] theorem lowerStrobes_txDone (o : Out) : (lowerStrobes o).txDone = false := rfl
@[simp] theorem quiet_quiet (s : State) : quiet (quiet s) = quiet s := rfl
@[simp] theorem idle_quiet (s : State) : idle (quiet s) = idle s := rfl

/-- `idle` says that the phase is IDLE. -/
theorem idle_iff (s : State) : idle s = true ↔ s.tx.phase = .idle := by
  simp [idle]

theorem idle_false_iff (s : State) : idle s = false ↔ s.tx.phase ≠ .idle := by
  simp [idle]

/-! ## One pulse -/

/-- A symbol is dropped at the cap, and counted and accepted below it (R101, R102). -/
theorem takeSymbol_cases (sym : Symbol) (r : Rx) :
    (r.count.toNat = Config.pulseCap ∧ takeSymbol sym r = { r with ovf := true }) ∨
    (r.count.toNat ≠ Config.pulseCap ∧
      takeSymbol sym r = acceptSymbol sym { r with count := r.count + 1 }) := by
  unfold takeSymbol
  split
  · exact .inl ⟨‹_›, rfl⟩
  · exact .inr ⟨‹_›, rfl⟩

/-- What an accepted symbol can do (R103 to R108). -/
theorem acceptSymbol_cases (sym : Symbol) (r : Rx) :
    (r.state = .hunt ∧ sym = .sync ∧ acceptSymbol sym r = { r with state := .pack }) ∨
    (r.state = .hunt ∧ sym ≠ .sync ∧ acceptSymbol sym r = r) ∨
    (∃ b, r.state = .pack ∧ symbolBit sym = some b ∧ acceptSymbol sym r = packBit b r) ∨
    (r.state = .pack ∧ symbolBit sym = none ∧ acceptSymbol sym r = { r with state := .stop }) ∨
    (r.state = .stop ∧ acceptSymbol sym r = r) := by
  unfold acceptSymbol
  cases h : r.state with
  | hunt =>
    by_cases hs : sym = .sync
    · exact .inl ⟨rfl, hs, by simp [hs]⟩
    · exact .inr (.inl ⟨rfl, hs, by simp [hs]⟩)
  | pack =>
    cases hb : symbolBit sym with
    | some b => exact .inr (.inr (.inl ⟨b, rfl, rfl, rfl⟩))
    | none => exact .inr (.inr (.inr (.inl ⟨rfl, rfl, rfl⟩)))
  | stop => exact .inr (.inr (.inr (.inr ⟨rfl, rfl⟩)))

/-- A bit either joins the byte being packed or completes it (R104, R105). -/
theorem packBit_cases (b : Bool) (r : Rx) :
    (r.nbits.toNat < 7 ∧ packBit b r = { r with sr := shiftIn r.sr b, nbits := r.nbits + 1 }) ∨
    (¬ r.nbits.toNat < 7 ∧ packBit b r = completeByte (shiftIn r.sr b) r) := by
  unfold packBit
  split
  · exact .inl ⟨‹_›, rfl⟩
  · exact .inr ⟨‹_›, rfl⟩

/-- A pulse is taken only by an idle block (R13, R100). -/
theorem receiveSymbol_cases (sym : Symbol) (s : State) :
    (s.tx.phase = .idle ∧ receiveSymbol sym s = { quiet s with rx := takeSymbol sym s.rx }) ∨
    (s.tx.phase ≠ .idle ∧ receiveSymbol sym s = quiet s) := by
  unfold receiveSymbol
  by_cases h : s.tx.phase = .idle
  · exact .inl ⟨h, by rw [if_pos ((idle_iff s).2 h)]; rfl⟩
  · exact .inr ⟨h, by rw [if_neg (by simpa [idle_iff] using h)]⟩

/-- A pulse changes only the RX registers and the strobes. -/
theorem receiveSymbol_frame (sym : Symbol) (s : State) :
    receiveSymbol sym s = { quiet s with rx := (receiveSymbol sym s).rx } := by
  rcases receiveSymbol_cases sym s with ⟨_, h⟩ | ⟨_, h⟩ <;> rw [h]

@[simp] theorem receiveSymbol_tx (sym : Symbol) (s : State) : (receiveSymbol sym s).tx = s.tx := by
  rw [receiveSymbol_frame]; rfl

/-- Samples presented to a busy block leave at most the strobes changed. -/
theorem runSamples_busy (ds : List Duration) (s : State) (h : s.tx.phase ≠ .idle) :
    runSamples ds s = s ∨ runSamples ds s = quiet s := by
  induction ds generalizing s with
  | nil => exact .inl rfl
  | cons d ds ih =>
    rcases receiveSymbol_cases (classify d) s with ⟨h', _⟩ | ⟨_, e⟩
    · exact absurd h' h
    · have hq : (quiet s).tx.phase ≠ .idle := h
      have : runSamples (d :: ds) s = runSamples ds (quiet s) := by
        simp only [runSamples, List.foldl_cons, e]
      rcases ih (quiet s) hq with i | i
      · exact .inr (by rw [this, i])
      · exact .inr (by rw [this, i, quiet_quiet])

@[simp] theorem runSamples_nil (s : State) : runSamples [] s = s := rfl

@[simp] theorem runSamples_cons (d : Duration) (ds : List Duration) (s : State) :
    runSamples (d :: ds) s = runSamples ds (receiveSymbol (classify d) s) := rfl

theorem runSamples_append (ds es : List Duration) (s : State) :
    runSamples (ds ++ es) s = runSamples es (runSamples ds s) := by
  simp [runSamples, List.foldl_append]

@[simp] theorem runSamples_tx (ds : List Duration) (s : State) : (runSamples ds s).tx = s.tx := by
  induction ds generalizing s with
  | nil => rfl
  | cons d ds ih => rw [runSamples_cons, ih, receiveSymbol_tx]

/-! ## The end of a sequence -/

@[simp] theorem clearRx_buf (r : Rx) : (clearRx r).buf = r.buf := rfl

theorem clearRx_clean (r : Rx) : Safety.RxClean (clearRx r) :=
  ⟨rfl, rfl, rfl, rfl, rfl, rfl⟩

/-- The checks all pass exactly where the verdict is `none` (R110). -/
theorem frameVerdict_none_iff (r : Rx) :
    frameVerdict r = .none ↔
      r.ovf = false ∧ Config.minPulses ≤ r.count.toNat ∧ r.state ≠ .hunt ∧ r.len.toNat ≠ 0 ∧
        r.buf[0] = Config.lead := by
  unfold frameVerdict
  split
  · simp_all
  · split
    · simp_all
    · split
      · simp_all
      · split
        · simp_all
        · split <;> simp_all

/-- A sequence is delivered or dropped for a reason (R109, R110). -/
theorem endFrame_cases (s : State) :
    (frameVerdict s.rx = .none ∧ endFrame s = deliverFrame s) ∨
    (frameVerdict s.rx ≠ .none ∧ endFrame s = dropFrame (frameVerdict s.rx) s) := by
  unfold endFrame
  cases h : frameVerdict s.rx <;> simp

/-- A frame end is taken only by an idle block (R13, R109). -/
theorem frameEndCycle_cases (s : State) :
    (s.tx.phase = .idle ∧ frameEndCycle s = endFrame (quiet s)) ∨
    (s.tx.phase ≠ .idle ∧ frameEndCycle s = quiet s) := by
  unfold frameEndCycle
  by_cases h : s.tx.phase = .idle
  · exact .inl ⟨h, by rw [if_pos ((idle_iff s).2 h)]⟩
  · exact .inr ⟨h, by rw [if_neg (by simpa [idle_iff] using h)]⟩

@[simp] theorem endFrame_tx (s : State) : (endFrame s).tx = s.tx := by
  rcases endFrame_cases s with ⟨_, h⟩ | ⟨_, h⟩ <;> rw [h] <;> rfl

@[simp] theorem endFrame_rx (s : State) : (endFrame s).rx = clearRx s.rx := by
  rcases endFrame_cases s with ⟨_, h⟩ | ⟨_, h⟩ <;> rw [h] <;> rfl

@[simp] theorem frameEndCycle_tx (s : State) : (frameEndCycle s).tx = s.tx := by
  rcases frameEndCycle_cases s with ⟨_, h⟩ | ⟨_, h⟩ <;> rw [h] <;> simp

@[simp] theorem receiveFrame_tx (frame : List Byte) (s : State) : (receiveFrame frame s).tx = s.tx := by
  simp [receiveFrame]

/-! ## START -/

/-- A START is accepted, or changes nothing but the strobes (R137, R151, R208). -/
theorem startCycle_cases (o : StartOperands) (s : State) :
    (s.tx.phase = .idle ∧ o.np ≠ 3 ∧ startCycle o s = { quiet s with tx := startTx o }) ∨
    ((s.tx.phase ≠ .idle ∨ o.np = 3) ∧ startCycle o s = quiet s) := by
  unfold startCycle
  by_cases h : s.tx.phase = .idle
  · by_cases hn : o.np = 3
    · exact .inr ⟨.inr hn, by simp [legalCount, hn]⟩
    · have hl : legalCount o = true := by simpa [legalCount] using hn
      exact .inl ⟨h, hn, by rw [(idle_iff s).2 h, hl]; rfl⟩
  · exact .inr ⟨.inl h, by simp [(idle_false_iff s).2 h]⟩

/-- A call is a START, or changes nothing (R161). -/
theorem callStart_cases (o : Option StartOperands) (s : State) :
    (∃ ops, o = some ops ∧ callStart o s = startCycle ops s) ∨ (o = none ∧ callStart o s = s) := by
  cases o with
  | some ops => exact .inl ⟨ops, rfl, rfl⟩
  | none => exact .inr ⟨rfl, rfl⟩

/-! ## TICK -/

/-- A TICK does nothing in IDLE, else counts down or leaves the phase (R138, R144, R145). -/
theorem tickCycle_cases (s : State) :
    (s.tx.phase = .idle ∧ tickCycle s = quiet s) ∨
    (s.tx.phase ≠ .idle ∧ 1 < s.tx.timer.toNat ∧
      tickCycle s = { quiet s with tx := { s.tx with timer := s.tx.timer - 1 } }) ∨
    (s.tx.phase ≠ .idle ∧ ¬ 1 < s.tx.timer.toNat ∧
      tickCycle s = { quiet s with
        tx := leavePhase s.tx
        out := { lowerStrobes s.out with txDone := s.tx.phase == .settle } }) := by
  unfold tickCycle tickCore
  by_cases h : s.tx.phase = .idle
  · exact .inl ⟨h, by rw [if_pos (by simpa [idle_iff] using h)]⟩
  · rw [if_neg (by simpa [idle_iff] using h)]
    by_cases ht : 1 < s.tx.timer.toNat
    · refine .inr (.inl ⟨h, ht, ?_⟩)
      simp [tickTx, ht, endsSettle, quiet, lowerStrobes]
    · refine .inr (.inr ⟨h, ht, ?_⟩)
      simp [tickTx, ht, endsSettle, quiet, lowerStrobes]

@[simp] theorem leavePhase_buf (t : Tx) : (leavePhase t).buf = t.buf := by
  unfold leavePhase
  split <;> (try rfl)
  split <;> rfl

@[simp] theorem leavePhase_len (t : Tx) : (leavePhase t).len = t.len := by
  unfold leavePhase
  split <;> (try rfl)
  split <;> rfl

/-- A symbol is sent only where it is due. -/
theorem sendSymbol_cases (sym : TxSymbol) (s : State) :
    (dueSymbol s.tx = some sym ∧ sendSymbol sym s = { quiet s with tx := symbolSent s.tx }) ∨
    (dueSymbol s.tx ≠ some sym ∧ sendSymbol sym s = s) := by
  unfold sendSymbol
  by_cases h : dueSymbol s.tx = some sym
  · exact .inl ⟨h, by rw [if_pos h]; rfl⟩
  · exact .inr ⟨h, by rw [if_neg h]⟩

/-- What may be due: a Sync after PRE, a bit after a delimiter (R139, R141, R143). -/
theorem dueSymbol_some (t : Tx) (sym : TxSymbol) (h : dueSymbol t = some sym) :
    t.timer.toNat = 1 ∧
      ((t.phase = .pre ∧ sym = .sync) ∨
       (t.phase = .syncI ∧ sym = .bit (txBitAt t 0 7)) ∨
       (t.phase = .bitI ∧ ∃ p, nextPosition t = some p ∧ sym = .bit (txBitAt t p.1 p.2))) := by
  unfold dueSymbol at h
  split at h
  · refine ⟨‹_›, ?_⟩
    cases hp : t.phase <;> simp only [hp] at h
    · cases h
    · exact .inl ⟨rfl, (Option.some.inj h).symm⟩
    · cases h
    · exact .inr (.inl ⟨rfl, (Option.some.inj h).symm⟩)
    · cases h
    · obtain ⟨p, hp', he⟩ := Option.map_eq_some_iff.1 h
      exact .inr (.inr ⟨rfl, p, hp', he.symm⟩)
    · cases h
  · cases h

/-! ## RESET and a whole cycle -/

theorem resetBlock_clean (s : State) : Safety.RxClean (resetBlock s).rx :=
  ⟨rfl, rfl, rfl, rfl, rfl, rfl⟩

@[simp] theorem resetBlock_phase (s : State) : (resetBlock s).tx.phase = .idle := rfl

/-- A cycle is a reset; or, from an idle block, samples, ends and starts; or, from a busy block, ticks (R33). -/
theorem cycle_cases (p : PortInputs) (s : State) :
    (p.rst = true ∧ cycle p s = resetBlock s) ∨
    (p.rst = false ∧ s.tx.phase = .idle ∧
      cycle p s =
        (let s1 := if p.sValid then sampleCore (classify p.sDur) (quiet s) else quiet s
         let s2 := if p.sEnd then endFrame s1 else s1
         if p.cStart && legalCount p.cmd then s2.setTx (startTx p.cmd) else s2)) ∨
    (p.rst = false ∧ s.tx.phase ≠ .idle ∧ cycle p s = if p.tick then tickCycle s else quiet s) := by
  unfold cycle
  cases hr : p.rst with
  | true => exact .inl ⟨rfl, by simp⟩
  | false =>
    by_cases h : s.tx.phase = .idle
    · exact .inr (.inl ⟨rfl, h, by simp [(idle_iff s).2 h]⟩)
    · exact .inr (.inr ⟨rfl, h, by simp [(idle_false_iff s).2 h, tickCycle]⟩)

/-! ## The adjacent decoders -/

/-- A frame that matches one shape runs that shape's decoder alone (R175, R190). -/
theorem runDecoders_oneHot (draw : Nat) (frame : List Byte) (a : Adjacent) :
    runDecoders draw frame 0b000001 a = decodeTransport draw frame a ∧
    runDecoders draw frame 0b000010 a = decodeTrackStatus draw frame a ∧
    runDecoders draw frame 0b000100 a = decodeTimeStatus frame a ∧
    runDecoders draw frame 0b001000 a = decodeExtendedStatus frame a ∧
    runDecoders draw frame 0b010000 a = a ∧
    runDecoders draw frame 0b100000 a = logUnknown frame a :=
  ⟨rfl, rfl, rfl, rfl, rfl, rfl⟩

/-- The log line is gated by the signature alone (R187). -/
theorem signatureCalls_cases (payload : List Byte) (last : Option (List Byte)) :
    (last = some payload ∧ signatureCalls payload last = []) ∨
    (last ≠ some payload ∧ signatureCalls payload last = [.signatureLog payload]) := by
  unfold signatureCalls
  split
  · exact .inl ⟨‹_›, rfl⟩
  · exact .inr ⟨‹_›, rfl⟩

end Sys2Proof.Machine
end

