-- ==== Sys2Proof/Laws/PerInstr.lean ====
section
/-! SUPPORT. A property of every instruction as syntax: a well-formed instruction's word is 1 to 17 bytes long. -/

namespace Sys2Proof.Laws.EncodeBounds

/-- The word of a well-formed instruction has 1 to 17 bytes. -/
def Statement (i : Instr) : Prop :=
  i.wellFormed = true → 1 ≤ (encode i).length ∧ (encode i).length ≤ 17

/-- An instruction whose word has a fixed length. -/
theorem of_length {i : Instr} (n : Nat) (h : (encode i).length = n) (h1 : 1 ≤ n) (h2 : n ≤ 17) : Statement i :=
  fun _ => ⟨h ▸ h1, h ▸ h2⟩

/-- An instruction whose operand is a frame of 1 to 16 bytes. -/
theorem frame_bounds {frame : List Byte} {a b : Bool}
    (h : (decide (1 ≤ frame.length) && decide (frame.length ≤ Config.frameMax) && a && b) = true) :
    1 ≤ frame.length ∧ frame.length ≤ 16 := by
  simp only [Bool.and_eq_true, decide_eq_true_eq] at h
  exact h.1.1

theorem rxsymZero (d : Duration) : Statement (.rxsymZero d) :=
  of_length 4 rfl (by decide) (by decide)

theorem rxsymOne (d : Duration) : Statement (.rxsymOne d) :=
  of_length 4 rfl (by decide) (by decide)

theorem rxsymSync (d : Duration) : Statement (.rxsymSync d) :=
  of_length 4 rfl (by decide) (by decide)

theorem rxsymNoise (d : Duration) : Statement (.rxsymNoise d) :=
  of_length 4 rfl (by decide) (by decide)

theorem rxsymGap (d : Duration) : Statement (.rxsymGap d) :=
  of_length 4 rfl (by decide) (by decide)

theorem frameTransport (second : Bool) (code : Byte) : Statement (.frameTransport second code) :=
  of_length 4 rfl (by decide) (by decide)

theorem frameTrackstatus (device : Byte) (payload : List Byte) : Statement (.frameTrackstatus device payload) := by
  intro h
  simp only [Instr.wellFormed, beq_iff_eq] at h
  simp [encode, Machine.trackStatusFrame, h]

theorem frameTimestatus (device : Byte) (payload : List Byte) : Statement (.frameTimestatus device payload) := by
  intro h
  simp only [Instr.wellFormed, beq_iff_eq] at h
  simp [encode, Machine.timeStatusFrame, h]

theorem frameExtendedstatus (device : Byte) (payload : List Byte) : Statement (.frameExtendedstatus device payload) := by
  intro h
  simp only [Instr.wellFormed, beq_iff_eq] at h
  simp [encode, Machine.extendedStatusFrame, h]

theorem frameHeartbeat : Statement .frameHeartbeat :=
  of_length 4 rfl (by decide) (by decide)

theorem frameUnknown (frame : List Byte) : Statement (.frameUnknown frame) := by
  intro h
  have hb := frame_bounds h
  simp only [encode]
  omega

theorem txsymSync : Statement .txsymSync :=
  of_length 4 rfl (by decide) (by decide)

theorem txsymOne : Statement .txsymOne :=
  of_length 4 rfl (by decide) (by decide)

theorem txsymZero : Statement .txsymZero :=
  of_length 4 rfl (by decide) (by decide)

theorem cmd2 (d c : Byte) : Statement (.cmd2 d c) :=
  of_length 2 rfl (by decide) (by decide)

theorem cmd3 (d c p : Byte) : Statement (.cmd3 d c p) :=
  of_length 3 rfl (by decide) (by decide)

theorem cmd4 (d c p q : Byte) : Statement (.cmd4 d c p q) :=
  of_length 4 rfl (by decide) (by decide)

theorem sendCommand (d c : Byte) (params : Params) : Statement (.sendCommand d c params) := by
  intro _
  cases params <;> simp [encode, paramBytes]

theorem playDiscP1Low (disc track : Nat) : Statement (.playDiscP1Low disc track) :=
  of_length 4 rfl (by decide) (by decide)

theorem playDiscP1High (disc track : Nat) : Statement (.playDiscP1High disc track) :=
  of_length 4 rfl (by decide) (by decide)

theorem playDiscP2Low (disc track : Nat) : Statement (.playDiscP2Low disc track) :=
  of_length 4 rfl (by decide) (by decide)

theorem playDiscP2High (disc track : Nat) : Statement (.playDiscP2High disc track) :=
  of_length 4 rfl (by decide) (by decide)

theorem play : Statement .play :=
  of_length 1 rfl (by decide) (by decide)

theorem stop : Statement .stop :=
  of_length 1 rfl (by decide) (by decide)

theorem pause : Statement .pause :=
  of_length 1 rfl (by decide) (by decide)

theorem nextTrack : Statement .nextTrack :=
  of_length 1 rfl (by decide) (by decide)

theorem prevTrack : Statement .prevTrack :=
  of_length 1 rfl (by decide) (by decide)

theorem powerOn : Statement .powerOn :=
  of_length 1 rfl (by decide) (by decide)

theorem powerOff : Statement .powerOff :=
  of_length 1 rfl (by decide) (by decide)

theorem reset : Statement .reset :=
  of_length 1 rfl (by decide) (by decide)

theorem sample (d : Duration) : Statement (.sample d) :=
  of_length 5 rfl (by decide) (by decide)

theorem frameEnd : Statement .frameEnd :=
  of_length 1 rfl (by decide) (by decide)

theorem start (np : BitVec 2) (b0 b1 b2 b3 : Byte) : Statement (.start np b0 b1 b2 b3) :=
  of_length 6 rfl (by decide) (by decide)

theorem tick : Statement .tick :=
  of_length 1 rfl (by decide) (by decide)

theorem classify (d : Duration) : Statement (.classify d) :=
  of_length 5 rfl (by decide) (by decide)

theorem dispatch (frame : List Byte) : Statement (.dispatch frame) := by
  intro h
  have hb := frame_bounds (b := true) ((Bool.and_true _).trans h)
  simp only [encode, List.length_cons]
  omega

end Sys2Proof.Laws.EncodeBounds
end

