-- ==== Sys2Proof/Tests/Slice0.lean ====
section
/-! SUPPORT. Small tests: each check of WellFormed refuses an ill-formed term, each row's word written out from the spec
decodes, single steps give what the spec's rules and worked examples (95_test_vectors.md) say, and each statement with
hypotheses has a state that meets them. -/

namespace Sys2Proof.Tests

open Sys2Proof.Machine Sys2Proof.Safety

/-! ## WellFormed refuses an ill-formed term for each check -/

theorem test_illFormed_rxsymZero_900 : Instr.wellFormed (.rxsymZero 900) = false := by decide
theorem test_illFormed_rxsymOne_2000 : Instr.wellFormed (.rxsymOne 2000) = false := by decide
theorem test_illFormed_rxsymOne_899 : Instr.wellFormed (.rxsymOne 899) = false := by decide
theorem test_illFormed_rxsymSync_5000 : Instr.wellFormed (.rxsymSync 5000) = false := by decide
theorem test_illFormed_rxsymSync_1999 : Instr.wellFormed (.rxsymSync 1999) = false := by decide
theorem test_illFormed_rxsymNoise_200001 : Instr.wellFormed (.rxsymNoise 200001) = false := by decide
theorem test_illFormed_rxsymNoise_4999 : Instr.wellFormed (.rxsymNoise 4999) = false := by decide
theorem test_illFormed_rxsymGap_200000 : Instr.wellFormed (.rxsymGap 200000) = false := by decide
theorem test_illFormed_trackstatus_short : Instr.wellFormed (.frameTrackstatus 0x40 [0]) = false := by decide
theorem test_illFormed_timestatus_short : Instr.wellFormed (.frameTimestatus 0x40 [0]) = false := by decide
theorem test_illFormed_extendedstatus_short : Instr.wellFormed (.frameExtendedstatus 0x40 [0]) = false := by decide
theorem test_illFormed_unknown_empty : Instr.wellFormed (.frameUnknown []) = false := by decide
theorem test_illFormed_unknown_long : Instr.wellFormed (.frameUnknown (0x41 :: List.replicate 16 0)) = false := by decide
theorem test_illFormed_unknown_lead : Instr.wellFormed (.frameUnknown [0x90]) = false := by decide
theorem test_illFormed_unknown_known : Instr.wellFormed (.frameUnknown [0x41, 0x04, 0x00, 0x55]) = false := by decide
theorem test_illFormed_playDiscP1Low_201 : Instr.wellFormed (.playDiscP1Low 201 0) = false := by decide
theorem test_illFormed_playDiscP1Low_0 : Instr.wellFormed (.playDiscP1Low 0 0) = false := by decide
theorem test_illFormed_playDiscP1High_200 : Instr.wellFormed (.playDiscP1High 200 0) = false := by decide
theorem test_illFormed_playDiscP1High_301 : Instr.wellFormed (.playDiscP1High 301 0) = false := by decide
theorem test_illFormed_playDiscP2Low_track : Instr.wellFormed (.playDiscP2Low 1 100) = false := by decide
theorem test_illFormed_playDiscP2High_track : Instr.wellFormed (.playDiscP2High 201 100) = false := by decide
theorem test_illFormed_dispatch_empty : Instr.wellFormed (.dispatch []) = false := by decide
theorem test_illFormed_dispatch_lead : Instr.wellFormed (.dispatch [0x42]) = false := by decide
theorem test_illFormed_dispatch_long : Instr.wellFormed (.dispatch (0x41 :: List.replicate 16 0)) = false := by decide

/-! ## Each row's word decodes (R61, R62, R64 to R71, R76; events and calls by notes/assumptions/12.md) -/

theorem test_decode_rxsymZero : decode .rxPulse [0, 0, 0x02, 0x58] = .ok (.rxsymZero 600) := by decide
theorem test_decode_rxsymOne : decode .rxPulse [0, 0, 0x04, 0xB0] = .ok (.rxsymOne 1200) := by decide
theorem test_decode_rxsymSync : decode .rxPulse [0, 0, 0x09, 0x60] = .ok (.rxsymSync 2400) := by decide
theorem test_decode_rxsymNoise : decode .rxPulse [0, 0x03, 0x0D, 0x40] = .ok (.rxsymNoise 200000) := by decide
theorem test_decode_rxsymGap : decode .rxPulse [0, 0x03, 0x0D, 0x41] = .ok (.rxsymGap 200001) := by decide
theorem test_decode_frameTransport : decode .rxFrame [0x41, 0x44, 0x00, 0x01] = .ok (.frameTransport true 0x01) := by decide
theorem test_decode_frameTrackstatus : decode .rxFrame [0x41, 0x7E, 0x11, 0x00, 1, 2, 3, 4, 5, 6, 7, 8] = .ok (.frameTrackstatus 0x7E [1, 2, 3, 4, 5, 6, 7, 8]) := by decide
theorem test_decode_frameTimestatus : decode .rxFrame [0x41, 0x40, 0x11, 0x01, 1, 2, 3, 4, 5, 6, 7, 8] = .ok (.frameTimestatus 0x40 [1, 2, 3, 4, 5, 6, 7, 8]) := by decide
theorem test_decode_frameExtendedstatus : decode .rxFrame [0x41, 0x40, 0x15, 0x00, 1, 2, 3, 4, 5, 6, 7, 8, 9, 10] = .ok (.frameExtendedstatus 0x40 [1, 2, 3, 4, 5, 6, 7, 8, 9, 10]) := by decide
theorem test_decode_frameHeartbeat : decode .rxFrame [0x41, 0x04, 0x00, 0x55] = .ok (.frameHeartbeat) := by decide
theorem test_decode_frameUnknown : decode .rxFrame [0x41, 0x40, 0x01, 0x00] = .ok (.frameUnknown [0x41, 0x40, 0x01, 0x00]) := by decide
theorem test_decode_txsymSync : decode .txPulse [0x09, 0x60, 0x02, 0x58] = .ok (.txsymSync) := by decide
theorem test_decode_txsymOne : decode .txPulse [0x04, 0xB0, 0x02, 0x58] = .ok (.txsymOne) := by decide
theorem test_decode_txsymZero : decode .txPulse [0x02, 0x58, 0x02, 0x58] = .ok (.txsymZero) := by decide
theorem test_decode_cmd2 : decode .txCommand [0x90, 0x00] = .ok (.cmd2 0x90 0x00) := by decide
theorem test_decode_cmd3 : decode .txCommand [0x90, 0x2E, 0xFF] = .ok (.cmd3 0x90 0x2E 0xFF) := by decide
theorem test_decode_cmd4 : decode .txCommand [0x41, 0x40, 0x00, 0x01] = .ok (.cmd4 0x41 0x40 0x00 0x01) := by decide
theorem test_decode_sendCommand : decode .sendCommand [0x90, 0x2E, 0xFF] = .ok (.sendCommand 0x90 0x2E (.one 0xFF)) := by decide
theorem test_decode_playDiscP1Low : decode .playDisc [0x90, 0x77, 0xFE, 0x42] = .ok (.playDiscP1Low 200 42) := by decide
theorem test_decode_playDiscP1High : decode .playDisc [0x93, 0x77, 0x32, 0x07] = .ok (.playDiscP1High 250 7) := by decide
theorem test_decode_playDiscP2Low : decode .playDisc [0x92, 0x77, 0x50, 0x03] = .ok (.playDiscP2Low 50 3) := by decide
theorem test_decode_playDiscP2High : decode .playDisc [0x95, 0x77, 0x64, 0x99] = .ok (.playDiscP2High 300 99) := by decide
theorem test_decode_play : decode .named [0] = .ok (.play) := by decide
theorem test_decode_stop : decode .named [1] = .ok (.stop) := by decide
theorem test_decode_pause : decode .named [2] = .ok (.pause) := by decide
theorem test_decode_nextTrack : decode .named [3] = .ok (.nextTrack) := by decide
theorem test_decode_prevTrack : decode .named [4] = .ok (.prevTrack) := by decide
theorem test_decode_powerOn : decode .named [5] = .ok (.powerOn) := by decide
theorem test_decode_powerOff : decode .named [6] = .ok (.powerOff) := by decide
theorem test_decode_reset : decode .event [0] = .ok (.reset) := by decide
theorem test_decode_sample : decode .event [1, 0, 0, 0x09, 0x60] = .ok (.sample 2400) := by decide
theorem test_decode_frameEnd : decode .event [2] = .ok (.frameEnd) := by decide
theorem test_decode_start : decode .event [3, 2, 0x93, 0x50, 0x32, 0x07] = .ok (.start 2 0x93 0x50 0x32 0x07) := by decide
theorem test_decode_tick : decode .event [4] = .ok (.tick) := by decide
theorem test_decode_classify : decode .operation [0, 0, 0, 0x07, 0xCF] = .ok (.classify 1999) := by decide
theorem test_decode_dispatch : decode .operation [1, 0x41, 0x04, 0x00, 0x55] = .ok (.dispatch [0x41, 0x04, 0x00, 0x55]) := by decide
theorem test_decode_badLead : decode .rxFrame [0x90, 0x00] = .error .notAFrame := by decide
theorem test_decode_badCount : decode .event [3, 4, 0, 0, 0, 0] = .error .badParamCount := by decide
theorem test_table_heartbeat : decodeTableWord 32 0x41040055 = some .frameHeartbeat := by decide
theorem test_table_playDisc : decodeTableWord 32 0x92000000 = some (.playDiscP2Low 0 0) := by decide

/-! ## The spec's vectors (95_test_vectors.md) -/

/-- Part 1 item 2 and section 2.1. -/
theorem test_classify : [0, 899, 900, 1800, 1999, 2000, 4999, 5000, 200000, 200001].map (fun n => classify (BitVec.ofNat 32 n)) =
    [.zero, .zero, .one, .one, .one, .sync, .sync, .noise, .noise, .gap] := by decide
/-- Part 1 item 6. -/
theorem test_discByte : [1, 99, 100, 200, 201, 300].map discByte = [0x01, 0x99, 0x9A, 0xFE, 0x01, 0x64] := by decide
/-- Part 1 item 7. -/
theorem test_devByte : [devByte 1 50, devByte 1 250, devByte 2 50, devByte 2 250] =
    [some 0x90, some 0x93, some 0x92, some 0x95] := by decide
/-- Section 2.6. -/
theorem test_encodeIndex : [1, 2, 3, 9, 10, 16, 153, 154, 254, 255, 256, 300].map encodeIndex =
    [0x1, 0x4, 0x5, 0x41, 0x44, 0x100, 0x4141, 0x4144, 0x5554, 0x5555, 0x10000, 0x10450] := by decide
/-- Section 2.6: an odd bit, a non-BCD index, an index past disc 200. -/
theorem test_decodeIndex : decodeIndexFromCode 0x2 300 = none ∧ (decodeIndexFromCode 0x44 300).bind num99 = none ∧
    (decodeIndexFromCode 0x5554 300).bind discLow = some 200 ∧ (decodeIndexFromCode 0x5555 300).bind discLow = none := by
  decide
/-- Section 2.6. -/
theorem test_decodeDigit : [0x00, 0x01, 0x04, 0x41, 0x02, 0x44].map decodeDigit =
    [some 0, some 1, some 2, some 9, none, none] := by decide
/-- Section 2.3. -/
theorem test_dispatch : [dispatch 4 [0x41, 0x40, 0, 0x7F], dispatch 4 [0x41, 0x45, 0, 0], dispatch 4 [0x41, 4, 0, 0x55],
    dispatch 12 [0x41, 0x7E, 0x11, 0, 0, 0, 0, 0, 0, 0, 0, 0], dispatch 11 [0x41, 0x40, 0x11, 0, 0, 0, 0, 0, 0, 0, 0]] =
    [1, 0x20, 0x10, 2, 0x20] := by decide
/-- Section 2.2, row A10 without its last byte: a Gap stops the packing. -/
theorem test_rxFrame_gap : rxFrame 128 [2400, 1200, 600, 250000] = .drop .empty := by decide
/-- Section 2.2, row A2: the count test comes first. -/
theorem test_rxFrame_short : rxFrame 128 [2400, 600] = .drop .tooShort := by decide
/-- Section 2.4, the command 90 00. -/
theorem test_commandTime : commandTime [0x90, 0x00] = 30400 ∧ (serialize [0x90, 0x00]).length = 36 := by decide

/-! ## Single steps -/

/-- The state an instruction leads to; the state before it where there is none. -/
def after (i : Instr) (s : State) : State :=
  match exec i s with
  | .next t => t
  | .fault _ => s
  | .refused _ => s

/-- An idle state whose RX registers pack a byte. -/
def packing (nbits : BitVec 3) (sr : Byte) (len : BitVec 5) : State :=
  { State.reset with rx := { Rx.reset with state := .pack, count := 40, nbits := nbits, sr := sr, len := len } }

/-- An idle state whose RX registers hold a byte and nothing else. -/
def holding (b : Byte) : State :=
  { State.reset with
    rx := { Rx.reset with state := .pack, count := 9, len := 1, buf := (Vector.replicate 16 0).setIfInBounds 0 b } }

/-- A state sending the command 90 00. -/
def sending (phase : TxPhase) (timer : BitVec 13) (byte : BitVec 2) (bit : BitVec 3) : State :=
  { State.reset with
    tx := { phase := phase, timer := timer, buf := #v[0x90, 0, 0, 0], len := 2, byte := byte, bit := bit } }

/-- Worked example of R100. -/
theorem test_sample_sync : (after (.sample 2400) State.reset).rx.state = .pack ∧
    (after (.sample 2400) State.reset).rx.count = 1 := by decide
/-- Program 4: before the eighth bit of 44, `rx_sr = 22`, `rx_nbits = 7`. -/
theorem test_sample_eighth : (after (.sample 600) (packing 7 0x22 1)).rx.buf[1] = 0x44 ∧
    (after (.sample 600) (packing 7 0x22 1)).rx.len = 2 := by decide
/-- R106: the sixteenth byte stops the packing. -/
theorem test_sample_full : (after (.sample 1200) (packing 7 0 15)).rx.state = .stop := by decide
theorem test_rxsymOne : (after (.rxsymOne 1200) (packing 1 0 0)).rx.sr = 1 := by decide
theorem test_rxsymZero : (after (.rxsymZero 0) (packing 1 1 0)).rx.sr = 2 := by decide
theorem test_rxsymSync : (after (.rxsymSync 2400) (packing 0 0 1)).rx.state = .stop := by decide
theorem test_rxsymNoise : (after (.rxsymNoise 6000) (packing 3 2 4)).rx.nbits = 3 := by decide
theorem test_rxsymGap : (after (.rxsymGap 300000) State.reset).rx.state = .hunt := by decide
/-- Rows A6 and A7. -/
theorem test_frameEnd_badLead : (after .frameEnd (holding 0)).out.rxDropReason = .badLead := by decide
theorem test_frameEnd_deliver : (after .frameEnd (holding 0x41)).out.fMatch = 0b100000 ∧
    (after .frameEnd (holding 0x41)).out.fValid = true := by decide
/-- Program 1 and the document's item 3. -/
theorem test_frameTransport : (after (.frameTransport false 0) State.reset).out.fMatch = 0b000001 ∧
    (after (.frameTransport false 0) State.reset).adj.status.playing = true := by decide +kernel
/-- The document's item 9. -/
theorem test_frameHeartbeat : (after .frameHeartbeat State.reset).out.fMatch = 0b010000 ∧
    (after .frameHeartbeat State.reset).adj.calls = [] := by decide +kernel
theorem test_frameUnknown : (after (.frameUnknown [0x41]) State.reset).adj.calls = [.unknownFrame [0x41]] := by decide +kernel
theorem test_frameTrackstatus :
    (after (.frameTrackstatus 0x7E (List.replicate 8 0)) State.reset).out.fMatch = 0b000010 := by decide +kernel
theorem test_frameTimestatus :
    (after (.frameTimestatus 0x40 (List.replicate 8 0)) State.reset).out.fMatch = 0b000100 := by decide +kernel
theorem test_frameExtendedstatus :
    (after (.frameExtendedstatus 0x40 (List.replicate 10 0)) State.reset).out.fMatch = 0b001000 := by decide +kernel
/-- Worked example of R137. -/
theorem test_start : (after (.start 0 0x90 0 1 2) State.reset).tx = ⟨.pre, 5000, #v[0x90, 0, 1, 2], 2, 0, 7⟩ := by decide
theorem test_start_refused : after (.start 3 0x90 0 0 0) State.reset = State.reset := by decide
theorem test_cmd2 : (after (.cmd2 0x90 0) State.reset).tx.len = 2 := by decide
theorem test_cmd3 : (after (.cmd3 0x90 0x2E 0xFF) State.reset).tx.len = 3 := by decide
theorem test_cmd4 : (after (.cmd4 0x41 0x40 0 1) State.reset).tx.buf = #v[0x41, 0x40, 0, 1] := by decide
theorem test_sendCommand : (after (.sendCommand 0x90 0x2E (.one 0xFF)) State.reset).tx.buf[2] = 0xFF := by decide
/-- Worked example of R157: `93 CMD_PLAY_DISC 32 07`. -/
theorem test_playDiscP1High : (after (.playDiscP1High 250 7) State.reset).tx.buf[0] = 0x93 ∧
    (after (.playDiscP1High 250 7) State.reset).tx.buf[2] = 0x32 ∧
    (after (.playDiscP1High 250 7) State.reset).tx.buf[3] = 0x07 := by decide
theorem test_playDiscP1Low : (after (.playDiscP1Low 200 42) State.reset).tx.buf[2] = 0xFE := by decide
theorem test_playDiscP2Low : (after (.playDiscP2Low 50 3) State.reset).tx.buf[0] = 0x92 := by decide
theorem test_playDiscP2High : (after (.playDiscP2High 300 99) State.reset).tx.buf[3] = 0x99 := by decide
theorem test_playDisc_refused : after (.playDiscP1Low 1 100) State.reset = State.reset := by decide
theorem test_play : (after .play State.reset).tx.buf[1] = Config.cmdPlay := rfl
theorem test_stop : (after .stop State.reset).tx.buf[1] = Config.cmdStop := rfl
theorem test_pause : (after .pause State.reset).tx.buf[1] = Config.cmdPause := rfl
theorem test_nextTrack : (after .nextTrack State.reset).tx.buf[1] = Config.cmdNext := rfl
theorem test_prevTrack : (after .prevTrack State.reset).tx.buf[1] = Config.cmdPrev := rfl
theorem test_powerOn : (after .powerOn State.reset).tx.buf[1] = Config.cmdPowerOn := rfl
theorem test_powerOff : (after .powerOff State.reset).tx.buf[0] = Config.devDefault := rfl
/-- Section 2.4: the edge at TICK 8000, bit 7 of 0x90 is 1. -/
theorem test_tick_firstBit : (after .tick (sending .syncI 1 0 7)).tx.timer = 1200 ∧
    (after .tick (sending .syncI 1 0 7)).tx.phase = .bitA := by decide
/-- Section 2.4: TICK 18800, byte 1 bit 7. -/
theorem test_tick_nextByte : (after .tick (sending .bitI 1 0 0)).tx.byte = 1 ∧
    (after .tick (sending .bitI 1 0 0)).tx.bit = 7 := by decide
theorem test_txsymSync : (after .txsymSync (sending .pre 1 0 7)).tx.phase = .syncI := by decide
theorem test_txsymOne : (after .txsymOne (sending .syncI 1 0 7)).tx.phase = .bitI ∧
    after .txsymZero (sending .syncI 1 0 7) = sending .syncI 1 0 7 := by decide
theorem test_txsymZero : (after .txsymZero (sending .bitI 1 0 7)).tx.bit = 6 := by decide
theorem test_reset : (after .reset (sending .bitA 5 1 3)).tx.phase = .idle ∧
    (after .reset (sending .bitA 5 1 3)).tx.bit = 7 := by decide
theorem test_classify_op : (after (.classify 1999) State.reset).opResult = .symbol .one := by decide
theorem test_dispatch_op : (after (.dispatch [0x41, 0x45, 0, 0]) State.reset).opResult = .vector 0x20 := by decide
/-- A step from reset with nothing presented is a quiet cycle. -/
theorem test_step_quiet : step State.reset = .next State.reset := rfl
/-- The first step after reset runs the word it is given. -/
theorem test_step_word : step (State.reset.withFetchWord 32 0x41040055) = exec .frameHeartbeat State.reset := rfl

/-! ## A state that meets each statement's hypotheses -/

theorem witness_DecodeEncode : (Instr.frameUnknown [0x41]).wellFormed = true ∧ (Instr.rxsymZero 899).wellFormed = true ∧
    (Instr.playDiscP2High 300 99).wellFormed = true := by decide
theorem witness_EncodeDecode : Channel.event ≠ .playDisc ∧ decode .event [3, 3, 0, 0, 0, 255] = .ok (.start 3 0 0 0 255) := by decide
theorem witness_PlayDiscWords : (0x95 : Byte) = 0x90 ∨ (0x95 : Byte) = 0x93 ∨ (0x95 : Byte) = 0x92 ∨ (0x95 : Byte) = 0x95 := by decide
theorem witness_PlayDiscWords_low : (0xFE : Byte) = discByte 200 ∧ (0x99 : Byte) = bcd 99 ∧ 99 ≤ 99 ∧ 1 ≤ 200 ∧ 200 ≤ 200 ∧
    (0x90 : Byte) = 0x90 ∧ (0x92 : Byte) = 0x92 := by decide
theorem witness_PlayDiscWords_high : (0x64 : Byte) = discByte 300 ∧ (0x00 : Byte) = bcd 0 ∧ 0 ≤ 99 ∧ 201 ≤ 300 ∧ 300 ≤ 300 ∧
    (0x93 : Byte) = 0x93 ∧ (0x95 : Byte) = 0x95 := by decide
theorem witness_PlayDiscWords_none : ¬ ∃ d t : Nat, (0xFF : Byte) = discByte d ∧ (0x00 : Byte) = bcd t ∧ t ≤ 99 ∧
    (((0x90 : Byte) = 0x90 ∨ (0x90 : Byte) = 0x92) ∧ 1 ≤ d ∧ d ≤ 200 ∨
      ((0x90 : Byte) = 0x93 ∨ (0x90 : Byte) = 0x95) ∧ 201 ≤ d ∧ d ≤ 300) := by
  rintro ⟨d, _, hd, -, -, ⟨-, -, h⟩ | ⟨h | h, -⟩⟩
  · have : ∀ k : Fin 201, (0xFF : Byte) ≠ discByte k.val := by decide +kernel
    exact this ⟨d, by omega⟩ hd
  · exact absurd h (by decide)
  · exact absurd h (by decide)
theorem witness_StepRunsDecoded : (State.reset.setPending [.word .event [4]]).pending = [.word .event [4]] ∧
    decode .event [4] = .ok .tick ∧ decodeTableWord 32 0x41400000 = some (.frameTransport false 0) := by decide
theorem witness_StepOtherStimuli_undecodable : decode .named [7] = .error .notANamedCommand ∧ State.reset.pending = [] ∧
    (State.reset.setPending [.word .named [7]]).pending = [.word .named [7]] := by decide
theorem witness_StepOtherStimuli_ports : (State.reset.setPending [.ports ⟨false, true, true, 0, true, true, ⟨0, 0, 0, 0, 0⟩⟩]).pending =
    [.ports ⟨false, true, true, 0, true, true, ⟨0, 0, 0, 0, 0⟩⟩] := by decide
theorem witness_StepOtherStimuli_refusedCall : (State.reset.setPending [.playDiscCall 3 1 0]).pending = [.playDiscCall 3 1 0] ∧
    ¬ ((3 = 1 ∨ 3 = 2) ∧ 1 ≤ 1 ∧ 1 ≤ 300 ∧ 0 ≤ 99) := by decide
theorem witness_StepOtherStimuli_call : (State.reset.setPending [.playDiscCall 2 300 99]).pending = [.playDiscCall 2 300 99] ∧ 1 ≤ 300 ∧ 99 ≤ 99 ∧
    (State.reset.setPending [.playDiscCall 1 1 0]).pending = [.playDiscCall 1 1 0] := by decide
theorem witness_ClassifyCompletes : (899 : Duration).toNat ≤ 899 ∧ (900 ≤ (900 : Duration).toNat ∧ (1999 : Duration).toNat ≤ 1999) ∧
    (2000 ≤ (2000 : Duration).toNat ∧ (4999 : Duration).toNat ≤ 4999) ∧
    (5000 ≤ (5000 : Duration).toNat ∧ (200000 : Duration).toNat ≤ 200000) ∧ 200001 ≤ (200001 : Duration).toNat := by decide
theorem witness_SampleAtCap : { State.reset with rx := { Rx.reset with count := 128 } }.tx.phase = .idle ∧
    { State.reset with rx := { Rx.reset with count := 128 } }.rx.count = 128 := by decide
theorem witness_SampleInHunt : State.reset.tx.phase = .idle ∧ State.reset.rx.count ≠ 128 ∧ State.reset.rx.state = .hunt := by decide
theorem witness_SampleBitInPack : (packing 6 0 0).tx.phase = .idle ∧ (packing 6 0 0).rx.count ≠ 128 ∧ (packing 6 0 0).rx.state = .pack ∧
    (packing 6 0 0).rx.nbits.toNat < 7 ∧ (1999 : Duration).toNat ≤ 1999 := by decide
theorem witness_SampleEighthBit : (packing 7 0 15).tx.phase = .idle ∧ (packing 7 0 15).rx.count ≠ 128 ∧ (packing 7 0 15).rx.state = .pack ∧
    (packing 7 0 15).rx.nbits = 7 ∧ (packing 7 0 15).rx.len.toNat < 16 ∧ (1999 : Duration).toNat ≤ 1999 := by decide
theorem witness_SampleNonBitInPack : (packing 7 0 15).rx.count ≠ 128 ∧ (packing 7 0 15).rx.state = .pack ∧ 2000 ≤ (2000 : Duration).toNat ∧
    (packing 7 0 15).tx.phase = .idle := by decide
theorem witness_SampleInStop : { State.reset with rx := { Rx.reset with state := .stop } }.tx.phase = .idle ∧
    { State.reset with rx := { Rx.reset with state := .stop } }.rx.count ≠ 128 ∧
    { State.reset with rx := { Rx.reset with state := .stop } }.rx.state = .stop := by decide
theorem witness_RxsymEffects : State.reset.tx.phase = .idle ∧ State.reset.rx.count ≠ 128 ∧ State.reset.rx.state = .hunt ∧
    (packing 6 0 0).tx.phase = .idle ∧ (packing 6 0 0).rx.count ≠ 128 ∧ (packing 6 0 0).rx.state = .pack ∧
    (packing 6 0 0).rx.nbits.toNat < 7 := by decide
theorem witness_RxsymIsSample : (Instr.rxsymZero 899).wellFormed = true ∧ (Instr.rxsymOne 1999).wellFormed = true ∧
    (Instr.rxsymSync 4999).wellFormed = true ∧ (Instr.rxsymNoise 200000).wellFormed = true ∧
    (Instr.rxsymGap 200001).wellFormed = true := by decide
theorem witness_FrameEndDrops_overflow : (State.reset.setRx { Rx.reset with ovf := true }).rx.ovf = true ∧
    (State.reset.setRx { Rx.reset with ovf := true }).tx.phase = .idle := by decide
theorem witness_FrameEndDrops_tooShort : (State.reset.setRx { Rx.reset with count := 2 }).rx.count.toNat < 3 ∧
    (State.reset.setRx { Rx.reset with count := 2 }).rx.ovf = false ∧
    (State.reset.setRx { Rx.reset with count := 2 }).tx.phase = .idle := by decide
theorem witness_FrameEndDrops_noSync : 3 ≤ (State.reset.setRx { Rx.reset with count := 3 }).rx.count.toNat ∧
    (State.reset.setRx { Rx.reset with count := 3 }).rx.state = .hunt ∧
    (State.reset.setRx { Rx.reset with count := 3 }).rx.ovf = false ∧
    (State.reset.setRx { Rx.reset with count := 3 }).tx.phase = .idle := by decide
theorem witness_FrameEndDrops_empty : 3 ≤ (packing 7 0 0).rx.count.toNat ∧ (packing 7 0 0).rx.state ≠ .hunt ∧ (packing 7 0 0).rx.len = 0 ∧
    (packing 7 0 0).rx.ovf = false ∧ (packing 7 0 0).tx.phase = .idle := by decide
theorem witness_FrameEndDrops_badLead : 3 ≤ (holding 0x40).rx.count.toNat ∧ (holding 0x40).rx.state ≠ .hunt ∧ (holding 0x40).rx.len ≠ 0 ∧
    (holding 0x40).rx.buf[0] ≠ 0x41 ∧ (holding 0x40).rx.ovf = false ∧ (holding 0x40).tx.phase = .idle := by decide
theorem witness_FrameEndDelivers : (holding 0x41).tx.phase = .idle ∧ (holding 0x41).rx.ovf = false ∧ 3 ≤ (holding 0x41).rx.count.toNat ∧
    (holding 0x41).rx.state ≠ .hunt ∧ 1 ≤ (holding 0x41).rx.len.toNat ∧ (holding 0x41).rx.len.toNat ≤ 16 ∧
    (holding 0x41).rx.buf[0] = 0x41 := by decide
theorem witness_RxFrameAgrees : State.reset.tx.phase = .idle ∧ RxClean State.reset.rx := by decide
theorem witness_FrameRowsDeliver : State.reset.tx.phase = .idle ∧ RxClean State.reset.rx ∧ (List.replicate 8 (0 : Byte)).length = 8 ∧
    (List.replicate 10 (0 : Byte)).length = 10 ∧
    (Instr.frameUnknown (0x41 :: List.replicate 14 0)).wellFormed = true ∧
    ((0x41 : Byte) :: List.replicate 14 0).length ≤ 15 := by decide
theorem witness_SixteenByteFrameOverflows : State.reset.tx.phase = .idle ∧ RxClean State.reset.rx ∧
    (Instr.frameUnknown (0x41 :: List.replicate 15 0)).wellFormed = true ∧
    ((0x41 : Byte) :: List.replicate 15 0).length = 16 := by decide
theorem witness_FrameRowIsItsPulses : channelOf .frameHeartbeat = .rxFrame := by decide
theorem witness_TransportDecoded : State.reset.tx.phase = .idle ∧ RxClean State.reset.rx ∧ (0x7F : Byte) ≠ 0x00 ∧ (0x7F : Byte) ≠ 0x04 ∧
    (0x7F : Byte) ≠ 0x01 := by decide
theorem witness_TrackStatusDecoded : State.reset.tx.phase = .idle ∧ RxClean State.reset.rx ∧ (List.replicate 8 (0xFF : Byte)).length = 8 ∧
    (0x7E : Byte) ≠ 0x40 ∧ (0x7E : Byte) ≠ 0x45 ∧ (0x7E : Byte) ≠ 0x44 ∧ (0x7E : Byte) ≠ 0x51 := by decide
theorem witness_OtherDecodersKeepStatus : State.reset.tx.phase = .idle ∧ RxClean State.reset.rx ∧ (List.replicate 8 (0 : Byte)).length = 8 ∧
    (List.replicate 10 (0 : Byte)).length = 10 ∧ (Instr.frameUnknown [0x41]).wellFormed = true := by decide
theorem witness_NumeralRoundTrip : encodeIndex 300 = encodeIndex 300 ∧ 1 ≤ 300 ∧ ∀ n : Fin 4, 1 ≤ n.val → encodeIndex n.val ≠ 2 := by decide
theorem witness_DiscMapping : 1 ≤ (1 : Fin 201).val ∧ 201 ≤ (201 : Fin 301).val ∧ 1 ≤ (99 : Fin 100).val := by decide
theorem witness_StartAccepted : State.reset.tx.phase = .idle ∧ (2 : BitVec 2) ≠ 3 := by decide
theorem witness_StartTurnedAway : (sending .settle 1 1 0).tx.phase ≠ .idle ∧ 99 ≤ 99 ∧ (1 ≤ 200 ∧ 200 ≤ 200) ∧ 201 ≤ 300 ∧ 300 ≤ 300 := by decide
theorem witness_CommandRowsStart : State.reset.tx.phase = .idle := by decide
theorem witness_NamedCommandsStart : (holding 0x41).tx.phase = .idle := by decide
theorem witness_PlayDiscStarts : State.reset.tx.phase = .idle ∧ 99 ≤ 99 ∧ (1 ≤ 1 ∧ 99 ≤ 99) ∧ (100 ≤ 100 ∧ 200 ≤ 200) ∧ 201 ≤ 201 ∧ 300 ≤ 300 := by decide
theorem witness_PlayDiscTurnedAway : 0 = 0 ∨ 300 < 0 ∨ 99 < 0 := by decide
theorem witness_TickStays : State.reset.tx.phase = .idle ∧ (sending .pre 2 0 7).tx.phase ≠ .idle ∧ 1 < (sending .pre 2 0 7).tx.timer.toNat := by decide
theorem witness_TickLeavesPre : (sending .pre 1 0 7).tx.phase = .pre ∧ (sending .pre 1 0 7).tx.timer = 1 := by decide
theorem witness_TickLeavesSyncA : (sending .syncA 1 0 7).tx.phase = .syncA ∧ (sending .syncA 1 0 7).tx.timer = 1 := by decide
theorem witness_TickLeavesSyncI : (sending .syncI 1 0 7).tx.phase = .syncI ∧ (sending .syncI 1 0 7).tx.timer = 1 := by decide
theorem witness_TickLeavesBitA : (sending .bitA 1 0 7).tx.phase = .bitA ∧ (sending .bitA 1 0 7).tx.timer = 1 := by decide
theorem witness_TickLeavesSettle : (sending .settle 1 1 0).tx.phase = .settle ∧ (sending .settle 1 1 0).tx.timer = 1 := by decide
theorem witness_TxsymSyncIsTicks : (sending .pre 1 0 7).tx.phase = .pre ∧ (sending .pre 1 0 7).tx.timer = 1 := by decide
theorem witness_TickLeavesBitI : (sending .bitI 1 0 1).tx.phase = .bitI ∧ (sending .bitI 1 0 1).tx.timer = 1 ∧
    (sending .bitI 1 0 1).tx.len.toNat ≤ 4 ∧ 0 < (sending .bitI 1 0 1).tx.bit.toNat := by decide
theorem witness_TickLeavesBitI_nextByte : (sending .bitI 1 0 0).tx.bit = 0 ∧ (sending .bitI 1 0 0).tx.byte.toNat + 1 < (sending .bitI 1 0 0).tx.len.toNat ∧
    (sending .bitI 1 0 0).tx.byte.toNat + 1 < 4 ∧ (sending .bitI 1 0 0).tx.timer = 1 ∧
    (sending .bitI 1 0 0).tx.len.toNat ≤ 4 := by decide
theorem witness_TickLeavesBitI_last : (sending .bitI 1 1 0).tx.bit = 0 ∧ (sending .bitI 1 1 0).tx.len.toNat ≤ (sending .bitI 1 1 0).tx.byte.toNat + 1 ∧
    (sending .bitI 1 1 0).tx.timer = 1 ∧ (sending .bitI 1 1 0).tx.len.toNat ≤ 4 := by decide
theorem witness_TxsymBitIsTicks_first : (sending .syncI 1 0 7).tx.timer = 1 ∧ (sending .syncI 1 0 7).tx.phase = .syncI ∧
    (sending .syncI 1 0 7).tx.buf[0].getLsbD 7 = true := by decide
theorem witness_TxsymBitIsTicks_firstZero : (State.reset.setTx { startTx ⟨0, 0, 0, 0, 0⟩ with phase := .syncI, timer := 1 }).tx.timer = 1 ∧
    (State.reset.setTx { startTx ⟨0, 0, 0, 0, 0⟩ with phase := .syncI, timer := 1 }).tx.phase = .syncI ∧
    (State.reset.setTx { startTx ⟨0, 0, 0, 0, 0⟩ with phase := .syncI, timer := 1 }).tx.buf[0].getLsbD 7 = false := by decide
theorem witness_TxsymBitIsTicks_nextOne : (sending .bitI 1 0 5).tx.phase = .bitI ∧ 0 < (sending .bitI 1 0 5).tx.bit.toNat ∧
    (4 : BitVec 3) = (sending .bitI 1 0 5).tx.bit - 1 ∧ (sending .bitI 1 0 5).tx.timer = 1 ∧
    (sending .bitI 1 0 5).tx.buf[0].getLsbD 4 = true := by decide
theorem witness_TxsymBitIsTicks_nextByteZero : (sending .bitI 1 0 0).tx.phase = .bitI ∧ (sending .bitI 1 0 0).tx.bit = 0 ∧
    (sending .bitI 1 0 0).tx.byte.toNat + 1 < (sending .bitI 1 0 0).tx.len.toNat ∧
    (1 : BitVec 2) = (sending .bitI 1 0 0).tx.byte + 1 ∧ (sending .bitI 1 0 0).tx.buf[1].getLsbD 7 = false := by decide
theorem witness_TxsymNotDue_sync : ¬ ((sending .pre 2 0 7).tx.timer = 1 ∧ (sending .pre 2 0 7).tx.phase = .pre) ∧
    ¬ ((sending .syncI 1 0 7).tx.timer = 1 ∧ (sending .syncI 1 0 7).tx.phase = .pre) := by decide
theorem witness_TxsymNotDue_otherValue : ¬ ((sending .syncI 1 0 7).tx.timer = 1 ∧ (sending .syncI 1 0 7).tx.phase = .syncI ∧ (sending .syncI 1 0 7).tx.buf[0].getLsbD 7 = false) ∧
    ¬ ∃ (byte : BitVec 2) (bit : BitVec 3), (sending .syncI 1 0 7).tx.timer = 1 ∧ (sending .syncI 1 0 7).tx.phase = .bitI ∧
      ((0 < (sending .syncI 1 0 7).tx.bit.toNat ∧ byte = (sending .syncI 1 0 7).tx.byte ∧ bit = (sending .syncI 1 0 7).tx.bit - 1) ∨
        ((sending .syncI 1 0 7).tx.bit = 0 ∧ (sending .syncI 1 0 7).tx.byte.toNat + 1 < (sending .syncI 1 0 7).tx.len.toNat ∧ byte = (sending .syncI 1 0 7).tx.byte + 1 ∧ bit = 7)) ∧
      ((sending .syncI 1 0 7).tx.buf[byte.toNat]'byte.isLt).getLsbD bit.toNat = false := by
  refine ⟨by decide, ?_⟩
  rintro ⟨_, _, _, h, _⟩
  exact absurd h (by decide)
theorem witness_TxsymNotDue_lastBit : ¬ ((sending .bitI 1 1 0).tx.timer = 1 ∧ (sending .bitI 1 1 0).tx.phase = .syncI ∧ (sending .bitI 1 1 0).tx.buf[0].getLsbD 7 = true) ∧
    ¬ ∃ (byte : BitVec 2) (bit : BitVec 3), (sending .bitI 1 1 0).tx.timer = 1 ∧ (sending .bitI 1 1 0).tx.phase = .bitI ∧
      ((0 < (sending .bitI 1 1 0).tx.bit.toNat ∧ byte = (sending .bitI 1 1 0).tx.byte ∧ bit = (sending .bitI 1 1 0).tx.bit - 1) ∨
        ((sending .bitI 1 1 0).tx.bit = 0 ∧ (sending .bitI 1 1 0).tx.byte.toNat + 1 < (sending .bitI 1 1 0).tx.len.toNat ∧ byte = (sending .bitI 1 1 0).tx.byte + 1 ∧ bit = 7)) ∧
      ((sending .bitI 1 1 0).tx.buf[byte.toNat]'byte.isLt).getLsbD bit.toNat = true := by
  refine ⟨by decide, ?_⟩
  rintro ⟨_, _, _, _, ⟨h, _⟩ | ⟨_, h, _⟩, _⟩
  · exact absurd h (by decide)
  · exact absurd h (by decide)
theorem witness_OutputsFollowPhase : (State.reset.setOut { Out.reset with rxDropReason := .badLead }).out.rxDropReason = .badLead ∧
    State.reset.out.rxDropReason = .none := by decide
theorem witness_WaveformAgrees : State.reset.tx.phase = .idle ∧ (2 : BitVec 2) ≠ 3 ∧
    exec (.start 2 1 2 3 4) State.reset = .next (after (.start 2 1 2 3 4) State.reset) ∧
    ([1, 2, 3, 4] : List Byte) = [1, 2, 3, 4].take (2 + (2 : BitVec 2).toNat) ∧ 1 ≤ commandTime [1, 2, 3, 4] := ⟨rfl, by decide, rfl, rfl, by decide⟩
theorem witness_CommandDuration : 2 ≤ ([0xFF, 0xFF, 0xFF, 0xFF] : List Byte).length ∧ ([0xFF, 0xFF, 0xFF, 0xFF] : List Byte).length ≤ 4 := by decide
theorem witness_EchoAssembles : ((0x90 : Byte) :: List.replicate 14 0).length ≤ 15 := by decide
theorem witness_NoCancellation : (sending .settle 1 1 0).tx.phase ≠ .idle ∧ Instr.tick ≠ .reset ∧
    exec .tick (sending .settle 1 1 0) = .next (after .tick (sending .settle 1 1 0)) ∧
    (after .tick (sending .settle 1 1 0)).tx.phase = .idle := ⟨by decide, by decide, rfl, by decide⟩
theorem witness_BusyFreezesRx : (sending .bitA 9 0 7).tx.phase ≠ .idle ∧ Instr.frameEnd ≠ .reset ∧
    exec .frameEnd (sending .bitA 9 0 7) = .next (after .frameEnd (sending .bitA 9 0 7)) := ⟨by decide, by decide, rfl⟩
theorem witness_RxAndTxAreDisjoint : exec .frameEnd (holding 0x41) = .next (after .frameEnd (holding 0x41)) ∧ channelOf (.rxsymOne 900) = .rxPulse ∧
    channelOf (.cmd2 0 0) = .txCommand ∧ channelOf .play = .named ∧ channelOf .txsymOne = .txPulse := ⟨rfl, rfl, rfl, rfl, rfl⟩
theorem witness_CycleOrder : (PortInputs.rst ⟨true, true, true, 0, true, true, ⟨0, 0, 0, 0, 0⟩⟩) = true ∧ State.reset.tx.phase = .idle ∧
    (StartOperands.np ⟨2, 0, 0, 0, 0⟩) ≠ 3 ∧ (PortInputs.rst ⟨false, true, true, 0, true, true, ⟨0, 0, 0, 0, 0⟩⟩) = false ∧
    (sending .pre 1 0 7).tx.phase ≠ .idle := by decide
theorem witness_StepKeepsInv : Inv (sending .bitI 1 0 0) ∧ step (sending .bitI 1 0 0) = .next (quiet (sending .bitI 1 0 0)) := ⟨⟨by decide, by decide, by decide, by decide⟩, rfl⟩

end Sys2Proof.Tests
end

section
/-! What a step does with a word the environment presents (00_scope.md R6): the lemmas about `fetch`, `consume`,
`step` and `withFetchWord` for the stimulus at the head of the list. -/

namespace Sys2Proof.Proofs.Scope

open Sys2Proof.Machine

theorem fetchWord_of_decode_ok {c : Channel} {bytes : List Byte} {i : Instr} (h : decode c bytes = .ok i) :
    fetchWord c bytes = .instr i := by
  simp [fetchWord, h]

theorem fetch_of_pending_word {s : State} {c : Channel} {bytes : List Byte} {rest : List Stimulus}
    (h : s.pending = .word c bytes :: rest) : fetch s = fetchWord c bytes := by
  simp [fetch, h]

theorem consume_of_pending_cons {s : State} {x : Stimulus} {rest : List Stimulus} (h : s.pending = x :: rest) :
    consume s = s.setPending rest := by
  simp [consume, h]

theorem step_of_fetch_instr {s : State} {i : Instr} (h : fetch s = .instr i) : step s = exec i (consume s) := by
  simp [step, h]

theorem step_of_pending_word {s : State} {c : Channel} {bytes : List Byte} {rest : List Stimulus} {i : Instr}
    (hpending : s.pending = .word c bytes :: rest) (hdecode : decode c bytes = .ok i) :
    step s = exec i (s.setPending rest) := by
  have hfetch : fetch s = .instr i :=
    (fetch_of_pending_word hpending).trans (fetchWord_of_decode_ok hdecode)
  rw [step_of_fetch_instr hfetch, consume_of_pending_cons hpending]

@[simp] theorem withFetchWord_pending (s : State) (nbits w : Nat) :
    (s.withFetchWord nbits w).pending = .word (tableWord nbits w).1 (tableWord nbits w).2 :: s.pending := rfl

/-- Presenting a word touches the list of stimuli alone, so another list hides that it was presented. -/
@[simp] theorem withFetchWord_setPending (s : State) (nbits w : Nat) (p : List Stimulus) :
    (s.withFetchWord nbits w).setPending p = s.setPending p := rfl

/-- A bare table word decodes exactly as its bytes do on the channel the model reads it on
(notes/assumptions/21.md). -/
theorem decodeTableWord_eq_some_iff {nbits w : Nat} {i : Instr} :
    decodeTableWord nbits w = some i ↔ decode (tableWord nbits w).1 (tableWord nbits w).2 = .ok i := by
  unfold decodeTableWord
  cases decode (tableWord nbits w).1 (tableWord nbits w).2 with
  | ok j => simp [Except.toOption]
  | error e => simp [Except.toOption]

/-- The presented word is taken again by the step that runs it, so the instruction runs on `s` itself. -/
theorem step_withFetchWord {s : State} {nbits w : Nat} {i : Instr} (h : decodeTableWord nbits w = some i) :
    step (s.withFetchWord nbits w) = exec i s := by
  have hdecode := decodeTableWord_eq_some_iff.mp h
  rw [step_of_pending_word (withFetchWord_pending s nbits w) hdecode, withFetchWord_setPending,
    State.setPending_self]

/-- Settles O5: both clauses are the step on a pending word, the second with the table word's channel and bytes. -/
theorem stepRunsDecoded : Obligations.StepRunsDecoded :=
  ⟨fun _ _ _ _ _ hpending hdecode => step_of_pending_word hpending hdecode,
    fun _ _ _ _ h => step_withFetchWord h⟩

end Sys2Proof.Proofs.Scope
end

section
/-! The register state (10_state.md): what a step does with the stimuli that are no words, what an instruction of each
channel does, which cycle an event is, and the invariant that every step keeps. -/

namespace Sys2Proof.Proofs.RegisterState

open Sys2Proof.Machine Sys2Proof.Safety Sys2Proof.Proofs.Scope

/-! ## What an instruction of each channel does

Each row of a channel is one shared operation, so a proof about all instructions splits into the channels and the five
events, not into the rows. -/

theorem exec_of_rxPulse {i : Instr} (h : channelOf i = .rxPulse) (s : State) :
    ∃ sym, exec i s = .next (receiveSymbol sym s) := by
  cases i with
  | rxsymZero _ | rxsymOne _ | rxsymSync _ | rxsymNoise _ | rxsymGap _ => exact ⟨_, rfl⟩
  | _ => simp [channelOf] at h

theorem exec_of_rxFrame {i : Instr} (h : channelOf i = .rxFrame) (s : State) :
    ∃ frame, exec i s = .next (receiveFrame frame s) := by
  cases i with
  | frameTransport _ _ | frameTrackstatus _ _ | frameTimestatus _ _ | frameExtendedstatus _ _ | frameHeartbeat
  | frameUnknown _ => exact ⟨_, rfl⟩
  | _ => simp [channelOf] at h

theorem exec_of_txPulse {i : Instr} (h : channelOf i = .txPulse) (s : State) :
    ∃ sym, exec i s = .next (sendSymbol sym s) := by
  cases i with
  | txsymSync | txsymOne | txsymZero => exact ⟨_, rfl⟩
  | _ => simp [channelOf] at h

/-- The channels whose instructions ask for a command to be sent. -/
def commandChannel (c : Channel) : Prop :=
  c = .txCommand ∨ c = .sendCommand ∨ c = .playDisc ∨ c = .named

theorem exec_of_commandChannel {i : Instr} (h : commandChannel (channelOf i)) (s : State) :
    ∃ o, exec i s = .next (callStart o s) := by
  cases i with
  | cmd2 d c => exact ⟨some ⟨0, d, c, 0, 0⟩, rfl⟩
  | cmd3 d c p => exact ⟨some ⟨1, d, c, p, 0⟩, rfl⟩
  | cmd4 d c p q => exact ⟨some ⟨2, d, c, p, q⟩, rfl⟩
  | sendCommand _ _ _ | playDiscP1Low _ _ | playDiscP1High _ _ | playDiscP2Low _ _ | playDiscP2High _ _ | play | stop
  | pause | nextTrack | prevTrack | powerOn | powerOff => exact ⟨_, rfl⟩
  | _ => simp [commandChannel, channelOf] at h

theorem exec_of_operation {i : Instr} (h : channelOf i = .operation) (s : State) :
    ∃ r, exec i s = .next (s.setOpResult r) := by
  cases i with
  | classify _ | dispatch _ => exact ⟨_, rfl⟩
  | _ => simp [channelOf] at h

theorem exec_reset (s : State) : exec .reset s = .next (resetBlock s) := rfl

theorem exec_sample (d : Duration) (s : State) : exec (.sample d) s = .next (receiveSymbol (classify d) s) := rfl

theorem exec_frameEnd (s : State) : exec .frameEnd s = .next (frameEndCycle s) := rfl

theorem exec_start (np : BitVec 2) (b0 b1 b2 b3 : Byte) (s : State) :
    exec (.start np b0 b1 b2 b3) s = .next (startCycle ⟨np, b0, b1, b2, b3⟩ s) := rfl

theorem exec_tick (s : State) : exec .tick s = .next (tickCycle s) := rfl

/-- The shared operations, as what an instruction can do. -/
inductive Effect (s : State) : State → Prop where
  | reset : Effect s (resetBlock s)
  | symbol (sym : Symbol) : Effect s (receiveSymbol sym s)
  | frame (frame : List Byte) : Effect s (receiveFrame frame s)
  | frameEnd : Effect s (frameEndCycle s)
  | call (o : Option StartOperands) : Effect s (callStart o s)
  | tick : Effect s (tickCycle s)
  | send (sym : TxSymbol) : Effect s (sendSymbol sym s)
  | result (r : OpResult) : Effect s (s.setOpResult r)

/-- Every instruction is one of the shared operations, whatever its operands and the state. -/
theorem exec_effect (i : Instr) (s : State) : ∃ t, exec i s = .next t ∧ Effect s t := by
  cases hc : channelOf i with
  | rxPulse => obtain ⟨sym, h⟩ := exec_of_rxPulse hc s; exact ⟨_, h, .symbol sym⟩
  | rxFrame => obtain ⟨frame, h⟩ := exec_of_rxFrame hc s; exact ⟨_, h, .frame frame⟩
  | txPulse => obtain ⟨sym, h⟩ := exec_of_txPulse hc s; exact ⟨_, h, .send sym⟩
  | txCommand => obtain ⟨o, h⟩ := exec_of_commandChannel (.inl hc) s; exact ⟨_, h, .call o⟩
  | sendCommand => obtain ⟨o, h⟩ := exec_of_commandChannel (.inr (.inl hc)) s; exact ⟨_, h, .call o⟩
  | playDisc => obtain ⟨o, h⟩ := exec_of_commandChannel (.inr (.inr (.inl hc))) s; exact ⟨_, h, .call o⟩
  | named => obtain ⟨o, h⟩ := exec_of_commandChannel (.inr (.inr (.inr hc))) s; exact ⟨_, h, .call o⟩
  | operation => obtain ⟨r, h⟩ := exec_of_operation hc s; exact ⟨_, h, .result r⟩
  | event =>
    cases i with
    | reset => exact ⟨_, exec_reset s, .reset⟩
    | sample d => exact ⟨_, exec_sample d s, .symbol _⟩
    | frameEnd => exact ⟨_, exec_frameEnd s, .frameEnd⟩
    | start np b0 b1 b2 b3 => exact ⟨_, exec_start np b0 b1 b2 b3 s, .call (some _)⟩
    | tick => exact ⟨_, exec_tick s, .tick⟩
    | _ => simp [channelOf] at hc

theorem exec_next_unique {i : Instr} {s t u : State} (ht : exec i s = .next t) (hu : exec i s = .next u) : t = u :=
  Host.Outcome.next.inj (ht.symm.trans hu)

theorem effect_of_exec {i : Instr} {s t : State} (h : exec i s = .next t) : Effect s t := by
  obtain ⟨u, hu, heffect⟩ := exec_effect i s
  rwa [exec_next_unique h hu]

/-! ## The RX registers -/

theorem rxInv_of_clean {r : Rx} (h : RxClean r) : RxInv r := by
  obtain ⟨hstate, hcount, hovf, hsr, hnbits, hlen⟩ := h
  simp [RxInv, hstate, hcount, hovf, hsr, hnbits, hlen]

/-- A new bit enters from below; the bit shifted out at the top is lost (R21). -/
theorem shiftIn_toNat (sr : Byte) (b : Bool) : (shiftIn sr b).toNat = 2 * (sr.toNat % 128) + b.toNat := by
  have hbit : b.toNat < 2 ^ 1 := b.toNat_lt
  rw [shiftIn, BitVec.toNat_append, BitVec.toNat_ofBool, ← Nat.shiftLeft_add_eq_or_of_lt hbit]
  simp [Nat.shiftLeft_eq]
  omega

theorem shiftIn_toNat_lt {sr : Byte} {n : Nat} (b : Bool) (h : sr.toNat < 2 ^ n) :
    (shiftIn sr b).toNat < 2 ^ (n + 1) := by
  have hbit := b.toNat_lt
  rw [shiftIn_toNat, Nat.pow_succ]
  omega

/-- Below the cap the count does not wrap. -/
theorem count_succ_toNat {r : Rx} (h : RxInv r) (hbelow : r.count.toNat ≠ Config.pulseCap) :
    (r.count + 1).toNat = r.count.toNat + 1 ∧ r.count.toNat < Config.pulseCap := by
  have hcount : r.count.toNat ≤ 128 := h.1
  have hne : r.count.toNat ≠ 128 := hbelow
  simp only [Config.pulseCap]
  bv_omega

theorem ovf_of_below {r : Rx} (h : RxInv r) (hbelow : r.count.toNat ≠ Config.pulseCap) : r.ovf = false := by
  obtain ⟨-, hovf, -⟩ := h
  simpa using fun hset => hbelow (hovf hset)

/-- A counted symbol that packs nothing keeps the bounds, wherever it leaves the assembler: the count of the symbol
itself covers the Sync that leaves HUNT. -/
theorem rxInv_count {r : Rx} (st : RxState) (h : RxInv r) (hbelow : r.count.toNat ≠ Config.pulseCap)
    (hhunt : st = .hunt → r.state = .hunt) : RxInv { r with count := r.count + 1, state := st } := by
  obtain ⟨hsucc, hlt⟩ := count_succ_toNat h hbelow
  have hovf := ovf_of_below h hbelow
  obtain ⟨-, -, hclean, hpacked, hsr⟩ := h
  refine ⟨by simp only; omega, by simp [hovf], fun hst => hclean (hhunt hst), fun _ => ?_, hsr⟩
  by_cases hs : r.state = .hunt
  · obtain ⟨hnbits, hlen, -⟩ := hclean hs
    have hbits : r.nbits.toNat = 0 := congrArg BitVec.toNat hnbits
    have hbytes : r.len.toNat = 0 := congrArg BitVec.toNat hlen
    simp only
    omega
  · have := hpacked hs
    simp only
    omega

/-- The byte being packed never overflows the buffer below the cap: 15 bytes are 121 pulses with the Sync, and the
eighth bit of the sixteenth would be pulse 129 (R106). -/
theorem packBit_keeps_rxInv {r : Rx} (b : Bool) (h : RxInv r) (hbelow : r.count.toNat ≠ Config.pulseCap)
    (hpack : r.state = .pack) : RxInv (packBit b { r with count := r.count + 1 }) := by
  obtain ⟨hsucc, hlt⟩ := count_succ_toNat h hbelow
  have hovf := ovf_of_below h hbelow
  obtain ⟨-, -, -, hpacked, hsr⟩ := h
  have hroom : 8 * r.len.toNat + r.nbits.toNat + 1 ≤ r.count.toNat := hpacked (by simp [hpack])
  have hcap : r.count.toNat < 128 := hlt
  rcases packBit_cases b { r with count := r.count + 1 } with ⟨hjoin, heq⟩ | ⟨hfull, heq⟩
  · have hnbits : (r.nbits + 1).toNat = r.nbits.toNat + 1 := by
      simp only at hjoin
      bv_omega
    rw [heq]
    refine ⟨by simp only; omega, by simp [hovf], by simp [hpack], fun _ => by simp only; omega, ?_⟩
    simpa only [hnbits] using shiftIn_toNat_lt b hsr
  · have hlen : (r.len + 1).toNat = r.len.toNat + 1 := by bv_omega
    have hseven : r.nbits.toNat = 7 := by
      simp only at hfull
      bv_omega
    rw [heq]
    refine ⟨by simp only [completeByte]; omega, by simp [completeByte, hovf], ?_, fun _ => ?_, by simp [completeByte]⟩
    · simp only [completeByte, hpack]
      split <;> simp
    · have hbits : (completeByte (shiftIn r.sr b) { r with count := r.count + 1 }).nbits.toNat = 0 := rfl
      rw [hbits]
      simp only [completeByte, hlen]
      omega

theorem acceptSymbol_keeps_rxInv {r : Rx} (sym : Symbol) (h : RxInv r) (hbelow : r.count.toNat ≠ Config.pulseCap) :
    RxInv (acceptSymbol sym { r with count := r.count + 1 }) := by
  rcases acceptSymbol_cases sym { r with count := r.count + 1 } with
    ⟨_, _, heq⟩ | ⟨_, _, heq⟩ | ⟨b, hpack, _, heq⟩ | ⟨_, _, heq⟩ | ⟨_, heq⟩
  · rw [heq]
    exact rxInv_count .pack h hbelow nofun
  · rw [heq]
    exact rxInv_count r.state h hbelow id
  · rw [heq]
    exact packBit_keeps_rxInv b h hbelow hpack
  · rw [heq]
    exact rxInv_count .stop h hbelow nofun
  · rw [heq]
    exact rxInv_count r.state h hbelow id

theorem takeSymbol_keeps_rxInv {r : Rx} (sym : Symbol) (h : RxInv r) : RxInv (takeSymbol sym r) := by
  rcases takeSymbol_cases sym r with ⟨hcap, heq⟩ | ⟨hbelow, heq⟩
  · obtain ⟨hcount, -, hclean, hpacked, hsr⟩ := h
    rw [heq]
    exact ⟨hcount, fun _ => hcap, hclean, hpacked, hsr⟩
  · rw [heq]
    exact acceptSymbol_keeps_rxInv sym h hbelow

/-- What was packed was counted, so at most 15 bytes are held at the cap of 128. -/
theorem len_le_of_rxInv {r : Rx} (h : RxInv r) : r.len.toNat ≤ 15 := by
  obtain ⟨hcount, -, hclean, hpacked, -⟩ := h
  have hcap : r.count.toNat ≤ 128 := hcount
  by_cases hs : r.state = .hunt
  · obtain ⟨-, hlen, -⟩ := hclean hs
    simp [hlen]
  · have := hpacked hs
    omega

/-! ## The TX registers -/

theorem txInv_of_idle {t : Tx} (hphase : t.phase = .idle) (htimer : t.timer = 0) : TxInv t := by
  simp [TxInv, hphase, htimer]

/-- Another value of the timer that is not above the old one keeps the bounds while busy (R24). -/
theorem txInv_timer {t : Tx} {v : BitVec 13} (h : TxInv t) (hbusy : t.phase ≠ .idle) (hpos : 1 ≤ v.toNat)
    (hle : v.toNat ≤ t.timer.toNat) : TxInv { t with timer := v } := by
  obtain ⟨-, hbounds, hfirst, hlast⟩ := h
  obtain ⟨-, htime, hlen⟩ := hbounds hbusy
  exact ⟨fun hidle => absurd hidle hbusy, fun _ => ⟨hpos, hle.trans htime, hlen⟩, hfirst, hlast⟩

theorem legalCount_iff {o : StartOperands} : legalCount o = true ↔ o.np ≠ 3 := by
  simp [legalCount]

/-- The operands of an accepted START bound the command to 2 to 4 bytes (R25, R82). -/
theorem startTx_txInv {o : StartOperands} (h : o.np ≠ 3) : TxInv (startTx o) := by
  have hlen : (2 + o.np.setWidth 3 : BitVec 3).toNat = 2 + o.np.toNat := by bv_omega
  have hnp : o.np.toNat ≤ 2 := by bv_omega
  refine ⟨nofun, fun _ => ⟨?_, ?_, ?_, ?_, ?_⟩, fun _ => ⟨rfl, rfl⟩, nofun⟩
  · simp [startTx, Config.tPre]
  · simp [startTx, phaseTime, Config.tPre]
  · simp only [startTx, hlen]; omega
  · simp only [startTx, hlen]; omega
  · change 0 < (2 + o.np.setWidth 3 : BitVec 3).toNat
    omega

theorem bitActive_cases (v : Bool) : bitActive v = 600 ∨ bitActive v = 1200 := by
  cases v
  · exact .inl rfl
  · exact .inr rfl

theorem bitActive_timer (v : Bool) : (BitVec.ofNat 13 (bitActive v)).toNat = bitActive v := by
  cases v <;> rfl

/-- The bit after the current one: the next lower bit, or bit 7 of the next byte, or none after the last (R143). -/
theorem nextPosition_cases (t : Tx) :
    (0 < t.bit.toNat ∧ nextPosition t = some (t.byte, t.bit - 1)) ∨
    (t.bit = 0 ∧ t.byte.toNat + 1 < t.len.toNat ∧ nextPosition t = some (t.byte + 1, 7)) ∨
    (t.bit = 0 ∧ t.len.toNat ≤ t.byte.toNat + 1 ∧ nextPosition t = none) := by
  unfold nextPosition
  split
  · exact .inl ⟨‹_›, rfl⟩
  · have hbit : t.bit = 0 := by bv_omega
    split
    · exact .inr (.inl ⟨hbit, ‹_›, rfl⟩)
    · exact .inr (.inr ⟨hbit, by omega, rfl⟩)

/-- The next bit lies inside the command (R29). -/
theorem nextPosition_byte_lt {t : Tx} {p : BitVec 2 × BitVec 3} (hlen : t.len.toNat ≤ 4)
    (hbyte : t.byte.toNat < t.len.toNat) (h : nextPosition t = some p) : p.1.toNat < t.len.toNat := by
  rcases nextPosition_cases t with ⟨_, heq⟩ | ⟨_, hnext, heq⟩ | ⟨_, _, heq⟩
  · obtain rfl := Option.some.inj (heq.symm.trans h)
    exact hbyte
  · obtain rfl := Option.some.inj (heq.symm.trans h)
    simp only
    bv_omega
  · simp [heq] at h

theorem enterBit_txInv {t : Tx} {byte : BitVec 2} {bit : BitVec 3} (hmin : 2 ≤ t.len.toNat) (hmax : t.len.toNat ≤ 4)
    (hbyte : byte.toNat < t.len.toNat) : TxInv (enterBit t byte bit) := by
  have htime := bitActive_cases (txBitAt t byte bit)
  refine ⟨nofun, fun _ => ⟨?_, ?_, hmin, hmax, hbyte⟩, by simp [enterBit], nofun⟩
  · simp only [enterBit, bitActive_timer]
    omega
  · simp only [enterBit, bitActive_timer]
    exact Nat.le_refl _

section LeavePhase

variable {t : Tx}

theorem leavePhase_pre (h : t.phase = .pre) :
    leavePhase t = { t with phase := .syncA, timer := BitVec.ofNat 13 Config.tSyncA } := by
  simp [leavePhase, h]

theorem leavePhase_syncA (h : t.phase = .syncA) :
    leavePhase t = { t with phase := .syncI, timer := BitVec.ofNat 13 Config.tIdle } := by
  simp [leavePhase, h]

/-- The first bit is entered as every other one: the indices stand at it since START. -/
theorem leavePhase_syncI (h : t.phase = .syncI) (hbyte : t.byte = 0) (hbit : t.bit = 7) :
    leavePhase t = enterBit t 0 7 := by
  simp [leavePhase, enterBit, h, hbyte, hbit]

theorem leavePhase_bitA (h : t.phase = .bitA) :
    leavePhase t = { t with phase := .bitI, timer := BitVec.ofNat 13 Config.tIdle } := by
  simp [leavePhase, h]

theorem leavePhase_bitI_next (h : t.phase = .bitI) {p : BitVec 2 × BitVec 3} (hnext : nextPosition t = some p) :
    leavePhase t = enterBit t p.1 p.2 := by
  simp [leavePhase, h, hnext]

theorem leavePhase_bitI_last (h : t.phase = .bitI) (hnext : nextPosition t = none) :
    leavePhase t = { t with phase := .settle, timer := BitVec.ofNat 13 Config.tSettle } := by
  simp [leavePhase, h, hnext]

theorem leavePhase_settle (h : t.phase = .settle) : leavePhase t = { t with phase := .idle, timer := 0 } := by
  simp [leavePhase, h]

end LeavePhase

theorem leavePhase_keeps_txInv {t : Tx} (h : TxInv t) (hbusy : t.phase ≠ .idle) : TxInv (leavePhase t) := by
  obtain ⟨-, hbounds, hfirst, -⟩ := h
  obtain ⟨-, -, hmin, hmax, hbyte⟩ := hbounds hbusy
  cases hp : t.phase with
  | idle => exact absurd hp hbusy
  | pre =>
    rw [leavePhase_pre hp]
    refine ⟨nofun, fun _ => ⟨?_, ?_, hmin, hmax, hbyte⟩, fun _ => hfirst (.inl hp), nofun⟩ <;>
      simp [phaseTime, Config.tSyncA]
  | syncA =>
    rw [leavePhase_syncA hp]
    refine ⟨nofun, fun _ => ⟨?_, ?_, hmin, hmax, hbyte⟩, fun _ => hfirst (.inr (.inl hp)), nofun⟩ <;>
      simp [phaseTime, Config.tIdle]
  | syncI =>
    obtain ⟨hbyte0, hbit7⟩ := hfirst (.inr (.inr hp))
    rw [leavePhase_syncI hp hbyte0 hbit7]
    exact enterBit_txInv hmin hmax (hbyte0 ▸ hbyte)
  | bitA =>
    rw [leavePhase_bitA hp]
    refine ⟨nofun, fun _ => ⟨?_, ?_, hmin, hmax, hbyte⟩, by simp, nofun⟩ <;> simp [phaseTime, Config.tIdle]
  | bitI =>
    cases hnext : nextPosition t with
    | some p =>
      rw [leavePhase_bitI_next hp hnext]
      exact enterBit_txInv hmin hmax (nextPosition_byte_lt hmax hbyte hnext)
    | none =>
      rw [leavePhase_bitI_last hp hnext]
      rcases nextPosition_cases t with ⟨_, heq⟩ | ⟨_, _, heq⟩ | ⟨hbit, hlast, _⟩
      · simp [heq] at hnext
      · simp [heq] at hnext
      · refine ⟨nofun, fun _ => ⟨?_, ?_, hmin, hmax, hbyte⟩, by simp, fun _ => ⟨by simp only; omega, hbit⟩⟩ <;>
          simp [phaseTime, Config.tSettle]
  | settle =>
    rw [leavePhase_settle hp]
    exact txInv_of_idle rfl rfl

/-- Where a symbol is due, its active phase and its delimiter follow, and neither is IDLE (R139 to R143). -/
theorem due_phases_busy {t : Tx} {sym : TxSymbol} (h : TxInv t) (hdue : dueSymbol t = some sym) :
    t.phase ≠ .idle ∧ (leavePhase t).phase ≠ .idle ∧ (leavePhase (leavePhase t)).phase ≠ .idle := by
  obtain ⟨-, -, hfirst, -⟩ := h
  obtain ⟨-, ⟨hp, -⟩ | ⟨hp, -⟩ | ⟨hp, p, hnext, -⟩⟩ := dueSymbol_some t sym hdue
  · rw [leavePhase_pre hp, leavePhase_syncA rfl]
    simp [hp]
  · obtain ⟨hbyte0, hbit7⟩ := hfirst (.inr (.inr hp))
    rw [leavePhase_syncI hp hbyte0 hbit7, leavePhase_bitA rfl]
    simp [hp, enterBit]
  · rw [leavePhase_bitI_next hp hnext, leavePhase_bitA rfl]
    simp [hp, enterBit]

theorem symbolSent_keeps_txInv {t : Tx} {sym : TxSymbol} (h : TxInv t) (hdue : dueSymbol t = some sym) :
    TxInv (symbolSent t) := by
  obtain ⟨hbusy, hbusyA, hbusyI⟩ := due_phases_busy h hdue
  have hinv := leavePhase_keeps_txInv (leavePhase_keeps_txInv h hbusy) hbusyA
  have ⟨_, hbounds, _⟩ := hinv
  obtain ⟨htimer, -⟩ := hbounds hbusyI
  exact txInv_timer hinv hbusyI (by decide) htimer

/-! ## The output registers -/

theorem lowerStrobes_keeps_outInv {o : Out} (h : OutInv o) : OutInv (lowerStrobes o) := by
  obtain ⟨hlen, hempty, hheld, -⟩ := h
  exact ⟨hlen, hempty, hheld, by simp, by simp, by simp⟩

theorem outInv_of_no_frame {o : Out} (hlen : o.fLen = 0) (hmatch : o.fMatch = 0) (hvalid : o.fValid = false)
    (hdrop : o.rxDrop = false) : OutInv o := by
  simp [OutInv, hlen, hmatch, hvalid, hdrop]

/-- The output port shows the frame the buffer held, the free bytes past its length hidden (R16, U3). -/
theorem heldFrame_delivered {o : Out} (draw : Nat) (r : Rx) (hlen : o.fLen = r.len)
    (hbytes : o.fBytes = deliveredBytes draw r) : heldFrame o = frameOf r := by
  rw [heldFrame, frameOf, hlen, hbytes]
  apply List.ext_getElem
  · simp
  · intro k hk _
    have hk' : k < r.len.toNat := by simp at hk; omega
    simp [deliveredBytes, hk']

theorem frameByte_frameOf_zero {r : Rx} (h : r.len.toNat ≠ 0) : frameByte (frameOf r) 0 = r.buf[0] := by
  have hpos : 0 < (frameOf r).length := by simp [frameOf]; omega
  rw [frameByte, List.getD_eq_getElem _ _ hpos]
  simp [frameOf]

/-! ## The adjacent record -/

/-- The bounds of the adjacent software speak of its record alone. -/
theorem adjInv_of_status_eq {a b : Adjacent} (h : AdjInv a) (heq : b.status = a.status) : AdjInv b := by
  rw [AdjInv, heq]
  exact h

theorem num99_bounds {idx n : Nat} (h : num99 idx = some n) : 1 ≤ n ∧ n ≤ 99 := by
  have hmem := List.mem_of_find?_eq_some h
  rw [List.mem_range'_1] at hmem
  omega

theorem discLow_bounds {idx n : Nat} (h : discLow idx = some n) : 1 ≤ n ∧ n ≤ 200 := by
  unfold discLow at h
  split at h
  · next hnum =>
    obtain rfl := Option.some.inj h
    have := num99_bounds hnum
    omega
  · split at h
    · have := Option.some.inj h
      omega
    · cases h

theorem discHigh_bounds {idx n : Nat} (h : discHigh idx = some n) : 201 ≤ n ∧ n ≤ 300 := by
  unfold discHigh at h
  split at h
  · have := Option.some.inj h
    omega
  · cases h

/-- A disc number the mapper gives is one of 1..300 (R182 to R184). -/
theorem discNumberOf_bounds {device : Byte} {idx n : Nat} (h : discNumberOf device idx = some n) :
    1 ≤ n ∧ n ≤ 300 := by
  unfold discNumberOf at h
  split at h
  · have := discLow_bounds h
    omega
  · split at h
    · have := discHigh_bounds h
      omega
    · cases h

theorem playerOf_le (device : Byte) : playerOf device ≤ 2 := by
  unfold playerOf
  split
  · decide
  · split <;> decide

theorem trackFields_keeps_adjInv {a : Adjacent} (draw : Nat) (frame : List Byte) (h : AdjInv a) :
    AdjInv { a with status := trackFields draw frame a.status } := by
  obtain ⟨hplayPause, hplayStop, hpauseStop, -⟩ := h
  refine ⟨hplayPause, hplayStop, hpauseStop, ?_, ?_, playerOf_le _⟩
  · refine (Option.all_eq_true _ _).2 fun n hn => ?_
    obtain ⟨idx, -, hdisc⟩ := Option.bind_eq_some_iff.1 hn
    simpa using discNumberOf_bounds hdisc
  · refine (Option.all_eq_true _ _).2 fun n hn => ?_
    obtain ⟨idx, -, htrack⟩ := Option.bind_eq_some_iff.1 hn
    simpa using num99_bounds htrack

/-- A transport code sets exactly one flag or leaves all three (R177). -/
theorem transportFlags_cases (code : Byte) (t : TrackStatus) :
    transportFlags code t = { t with playing := true, paused := false, stopped := false } ∨
    transportFlags code t = { t with playing := false, paused := true, stopped := false } ∨
    transportFlags code t = { t with playing := false, paused := false, stopped := true } ∨
    transportFlags code t = t := by
  unfold transportFlags
  split
  · exact .inl rfl
  · split
    · exact .inr (.inl rfl)
    · split
      · exact .inr (.inr (.inl rfl))
      · exact .inr (.inr (.inr rfl))

theorem transportFlags_keeps_adjInv {a : Adjacent} (code : Byte) (h : AdjInv a) :
    AdjInv { a with status := transportFlags code a.status } := by
  have ⟨_, _, _, hnumbers⟩ := h
  unfold AdjInv
  rcases transportFlags_cases code a.status with heq | heq | heq | heq
  · simpa [heq] using hnumbers
  · simpa [heq] using hnumbers
  · simpa [heq] using hnumbers
  · rw [heq]
    exact h

theorem decodeTransport_keeps_adjInv {a : Adjacent} (draw : Nat) (frame : List Byte) (h : AdjInv a) :
    AdjInv (decodeTransport draw frame a) :=
  transportFlags_keeps_adjInv (frameByte frame 3) h

theorem decodeTrackStatus_keeps_adjInv {a : Adjacent} (draw : Nat) (frame : List Byte) (h : AdjInv a) :
    AdjInv (decodeTrackStatus draw frame a) :=
  adjInv_of_status_eq (trackFields_keeps_adjInv draw frame h) rfl

theorem adjInv_ite {a : Adjacent} {c : Bool} {f : Adjacent → Adjacent} (hf : AdjInv a → AdjInv (f a))
    (h : AdjInv a) : AdjInv (if c then f a else a) := by
  cases c
  · exact h
  · exact hf h

theorem runDecoders_keeps_adjInv {a : Adjacent} (draw : Nat) (frame : List Byte) (m : BitVec 6) (h : AdjInv a) :
    AdjInv (runDecoders draw frame m a) := by
  have hTransport := adjInv_ite (c := m.getLsbD 0) (decodeTransport_keeps_adjInv draw frame) h
  have hTrack := adjInv_ite (c := m.getLsbD 1) (decodeTrackStatus_keeps_adjInv draw frame) hTransport
  have hTime := adjInv_ite (c := m.getLsbD 2) (f := decodeTimeStatus frame) (adjInv_of_status_eq · rfl) hTrack
  have hExt := adjInv_ite (c := m.getLsbD 3) (f := decodeExtendedStatus frame) (adjInv_of_status_eq · rfl) hTime
  exact adjInv_ite (c := m.getLsbD 5) (f := logUnknown frame) (adjInv_of_status_eq · rfl) hExt

/-! ## The whole state -/

theorem quiet_keeps_inv {s : State} (h : Inv s) : Inv (quiet s) := by
  obtain ⟨hrx, htx, hout, hadj⟩ := h
  exact ⟨hrx, htx, lowerStrobes_keeps_outInv hout, adjInv_of_status_eq hadj rfl⟩

theorem sampleCore_keeps_inv {s : State} (sym : Symbol) (h : Inv s) : Inv (sampleCore sym s) := by
  obtain ⟨hrx, hrest⟩ := h
  exact ⟨takeSymbol_keeps_rxInv sym hrx, hrest⟩

theorem receiveSymbol_keeps_inv {s : State} (sym : Symbol) (h : Inv s) : Inv (receiveSymbol sym s) := by
  rcases receiveSymbol_cases sym s with ⟨_, heq⟩ | ⟨_, heq⟩
  · rw [heq]
    exact sampleCore_keeps_inv sym (quiet_keeps_inv h)
  · rw [heq]
    exact quiet_keeps_inv h

theorem runSamples_keeps_inv {s : State} (ds : List Duration) (h : Inv s) : Inv (runSamples ds s) := by
  induction ds generalizing s with
  | nil => exact h
  | cons d ds ih => exact ih (receiveSymbol_keeps_inv (classify d) h)

theorem dropFrame_keeps_inv {s : State} {reason : DropReason} (h : Inv s) (hvalid : s.out.fValid = false)
    (hreason : reason ≠ .none) : Inv (dropFrame reason s) := by
  obtain ⟨-, htx, ⟨hlen, hempty, hheld, -⟩, hadj⟩ := h
  exact ⟨rxInv_of_clean (clearRx_clean s.rx), htx,
    ⟨hlen, hempty, hheld, by simp [dropFrame, hvalid], fun _ => hreason, by simp [dropFrame, hvalid]⟩, hadj⟩

theorem deliverFrame_keeps_inv {s : State} (h : Inv s) (hdrop : s.out.rxDrop = false)
    (hverdict : frameVerdict s.rx = .none) : Inv (deliverFrame s) := by
  obtain ⟨hrx, htx, -, hadj⟩ := h
  obtain ⟨-, -, -, hnonempty, hlead⟩ := (frameVerdict_none_iff s.rx).1 hverdict
  have hlen : s.rx.len.toNat ≤ 15 := len_le_of_rxInv hrx
  have hne : s.rx.len ≠ 0 := fun h0 => hnonempty (by simp [h0])
  have hheld : heldFrame (deliverFrame s).out = frameOf s.rx := heldFrame_delivered s.draws s.rx rfl rfl
  refine ⟨rxInv_of_clean (clearRx_clean s.rx), htx, ⟨?_, ?_, fun _ => ?_, ?_, ?_, fun _ => hne⟩,
    runDecoders_keeps_adjInv _ _ _ hadj⟩
  · simp only [deliverFrame, Config.frameMax]; omega
  · exact fun h0 => absurd h0 hne
  · rw [hheld, frameByte_frameOf_zero hnonempty]
    exact ⟨hlead, rfl⟩
  · simp [deliverFrame, hdrop]
  · simp [deliverFrame, hdrop]

/-- A sequence ends in a cycle whose RX strobes have fallen, so that the two never stand together (R17, R27). -/
theorem endFrame_keeps_inv {s : State} (h : Inv s) (hvalid : s.out.fValid = false) (hdrop : s.out.rxDrop = false) :
    Inv (endFrame s) := by
  rcases endFrame_cases s with ⟨hverdict, heq⟩ | ⟨hreason, heq⟩
  · rw [heq]
    exact deliverFrame_keeps_inv h hdrop hverdict
  · rw [heq]
    exact dropFrame_keeps_inv h hvalid hreason

theorem frameEndCycle_keeps_inv {s : State} (h : Inv s) : Inv (frameEndCycle s) := by
  rcases frameEndCycle_cases s with ⟨_, heq⟩ | ⟨_, heq⟩
  · rw [heq]
    exact endFrame_keeps_inv (quiet_keeps_inv h) rfl rfl
  · rw [heq]
    exact quiet_keeps_inv h

theorem setTx_startTx_keeps_inv {s : State} {o : StartOperands} (h : Inv s) (hnp : o.np ≠ 3) :
    Inv (s.setTx (startTx o)) := by
  obtain ⟨hrx, -, hrest⟩ := h
  exact ⟨hrx, startTx_txInv hnp, hrest⟩

theorem startCycle_keeps_inv {s : State} (o : StartOperands) (h : Inv s) : Inv (startCycle o s) := by
  rcases startCycle_cases o s with ⟨_, hnp, heq⟩ | ⟨_, heq⟩
  · rw [heq]
    exact setTx_startTx_keeps_inv (quiet_keeps_inv h) hnp
  · rw [heq]
    exact quiet_keeps_inv h

theorem callStart_keeps_inv {s : State} (o : Option StartOperands) (h : Inv s) : Inv (callStart o s) := by
  cases o with
  | some ops => exact startCycle_keeps_inv ops h
  | none => exact h

theorem tickCycle_keeps_inv {s : State} (h : Inv s) : Inv (tickCycle s) := by
  obtain ⟨hrx, htx, hout, hadj⟩ := quiet_keeps_inv h
  rcases tickCycle_cases s with ⟨_, heq⟩ | ⟨hbusy, htimer, heq⟩ | ⟨hbusy, _, heq⟩
  · rw [heq]
    exact ⟨hrx, htx, hout, hadj⟩
  · have hpred : (s.tx.timer - 1).toNat = s.tx.timer.toNat - 1 := by bv_omega
    rw [heq]
    exact ⟨hrx, txInv_timer htx hbusy (by omega) (by omega), hout, hadj⟩
  · rw [heq]
    exact ⟨hrx, leavePhase_keeps_txInv htx hbusy, hout, hadj⟩

theorem sendSymbol_keeps_inv {s : State} (sym : TxSymbol) (h : Inv s) : Inv (sendSymbol sym s) := by
  rcases sendSymbol_cases sym s with ⟨hdue, heq⟩ | ⟨_, heq⟩
  · obtain ⟨hrx, htx, hout, hadj⟩ := quiet_keeps_inv h
    rw [heq]
    exact ⟨hrx, symbolSent_keeps_txInv htx hdue, hout, hadj⟩
  · rwa [heq]

theorem resetBlock_keeps_inv {s : State} (h : Inv s) : Inv (resetBlock s) := by
  obtain ⟨-, -, -, hadj⟩ := h
  exact ⟨rxInv_of_clean (resetBlock_clean s), txInv_of_idle rfl rfl, outInv_of_no_frame rfl rfl rfl rfl,
    adjInv_of_status_eq hadj rfl⟩

theorem cycle_keeps_inv {s : State} (p : PortInputs) (h : Inv s) : Inv (cycle p s) := by
  rcases cycle_cases p s with ⟨_, heq⟩ | ⟨_, _, heq⟩ | ⟨_, _, heq⟩
  · rw [heq]
    exact resetBlock_keeps_inv h
  · rw [heq]
    extract_lets sampled ended
    have hsampled : Inv sampled ∧ sampled.out = lowerStrobes s.out := by
      unfold sampled
      split
      · exact ⟨sampleCore_keeps_inv _ (quiet_keeps_inv h), rfl⟩
      · exact ⟨quiet_keeps_inv h, rfl⟩
    obtain ⟨hinv, hout⟩ := hsampled
    have hended : Inv ended := by
      unfold ended
      split
      · exact endFrame_keeps_inv hinv (by rw [hout]; rfl) (by rw [hout]; rfl)
      · exact hinv
    split
    · next hstart =>
      obtain ⟨-, hlegal⟩ := Bool.and_eq_true_iff.1 hstart
      exact setTx_startTx_keeps_inv hended (legalCount_iff.1 hlegal)
    · exact hended
  · rw [heq]
    split
    · exact tickCycle_keeps_inv h
    · exact quiet_keeps_inv h

theorem effect_keeps_inv {s t : State} (h : Inv s) (heffect : Effect s t) : Inv t := by
  cases heffect with
  | reset => exact resetBlock_keeps_inv h
  | symbol sym => exact receiveSymbol_keeps_inv sym h
  | frame frame => exact frameEndCycle_keeps_inv (runSamples_keeps_inv (framePulses frame) h)
  | frameEnd => exact frameEndCycle_keeps_inv h
  | call o => exact callStart_keeps_inv o h
  | tick => exact tickCycle_keeps_inv h
  | send sym => exact sendSymbol_keeps_inv sym h
  | result r => exact h

/-- What a step can do: a cycle of the ports, an instruction, or no more than taking the stimulus. -/
theorem step_cases {s t : State} (h : step s = .next t) :
    t = quiet s ∨ (∃ i, exec i (consume s) = .next t) ∨ (∃ p, t = cycle p (consume s)) ∨ t = consume s := by
  unfold step at h
  cases hf : fetch s with
  | nothing => rw [hf] at h; exact .inl (Host.Outcome.next.inj h).symm
  | instr i => rw [hf] at h; exact .inr (.inl ⟨i, h⟩)
  | undecodable why => rw [hf] at h; cases h
  | ports p => rw [hf] at h; exact .inr (.inr (.inl ⟨p, (Host.Outcome.next.inj h).symm⟩))
  | refusedCall => rw [hf] at h; exact .inr (.inr (.inr (Host.Outcome.next.inj h).symm))

/-- The list of stimuli is no register. -/
theorem consume_keeps_inv {s : State} (h : Inv s) : Inv (consume s) := h

/-- Settles O60: every stimulus is a cycle of the ports or one of the shared operations, and each of these keeps the
bounds. -/
theorem stepKeepsInv : Obligations.StepKeepsInv := by
  intro s t hinv hstep
  have hconsumed := consume_keeps_inv hinv
  rcases step_cases hstep with rfl | ⟨i, hexec⟩ | ⟨p, rfl⟩ | rfl
  · exact quiet_keeps_inv hinv
  · exact effect_keeps_inv hconsumed (effect_of_exec hexec)
  · exact cycle_keeps_inv p hconsumed
  · exact hconsumed

/-! ## Each event in an idle and in a busy block -/

section EventCycles

variable {s : State}

theorem receiveSymbol_of_idle (sym : Symbol) (h : s.tx.phase = .idle) :
    receiveSymbol sym s = sampleCore sym (quiet s) := by
  simp [receiveSymbol, (idle_iff s).2 h]

theorem receiveSymbol_of_busy (sym : Symbol) (h : s.tx.phase ≠ .idle) : receiveSymbol sym s = quiet s := by
  simp [receiveSymbol, (idle_false_iff s).2 h]

theorem frameEndCycle_of_idle (h : s.tx.phase = .idle) : frameEndCycle s = endFrame (quiet s) := by
  simp [frameEndCycle, (idle_iff s).2 h]

theorem frameEndCycle_of_busy (h : s.tx.phase ≠ .idle) : frameEndCycle s = quiet s := by
  simp [frameEndCycle, (idle_false_iff s).2 h]

theorem startCycle_of_idle (o : StartOperands) (h : s.tx.phase = .idle) :
    startCycle o s = if legalCount o then (quiet s).setTx (startTx o) else quiet s := by
  simp [startCycle, (idle_iff s).2 h]

theorem startCycle_of_busy (o : StartOperands) (h : s.tx.phase ≠ .idle) : startCycle o s = quiet s := by
  simp [startCycle, (idle_false_iff s).2 h]

theorem tickCycle_of_idle (h : s.tx.phase = .idle) : tickCycle s = quiet s := by
  simp [tickCycle, tickCore, (idle_iff s).2 h]

theorem tickCycle_of_running (h : s.tx.phase ≠ .idle) (htimer : 1 < s.tx.timer.toNat) :
    tickCycle s = { quiet s with tx := { s.tx with timer := s.tx.timer - 1 } } := by
  rcases tickCycle_cases s with ⟨hidle, _⟩ | ⟨_, _, heq⟩ | ⟨_, hlast, _⟩
  · exact absurd hidle h
  · exact heq
  · exact absurd htimer hlast

theorem cycle_of_rst {p : PortInputs} (hrst : p.rst = true) : cycle p s = resetBlock s := by
  simp [cycle, hrst]

/-- In an idle block the sample, the end and the start act in this order, and the tick not at all (R33). -/
theorem cycle_of_idle {p : PortInputs} (hrst : p.rst = false) (h : s.tx.phase = .idle) :
    cycle p s =
      (let s1 := if p.sValid then sampleCore (classify p.sDur) (quiet s) else quiet s
       let s2 := if p.sEnd then endFrame s1 else s1
       if p.cStart && legalCount p.cmd then s2.setTx (startTx p.cmd) else s2) := by
  rcases cycle_cases p s with ⟨hr, _⟩ | ⟨_, _, heq⟩ | ⟨_, hbusy, _⟩
  · simp [hrst] at hr
  · exact heq
  · exact absurd h hbusy

/-- In a busy block only the tick acts (R33, R149, R151). -/
theorem cycle_of_busy {p : PortInputs} (hrst : p.rst = false) (h : s.tx.phase ≠ .idle) :
    cycle p s = if p.tick then tickCycle s else quiet s := by
  rcases cycle_cases p s with ⟨hr, _⟩ | ⟨_, hidle, _⟩ | ⟨_, _, heq⟩
  · simp [hrst] at hr
  · exact absurd hidle h
  · exact heq

end EventCycles

/-- Settles O8: the definition of a quiet cycle, written out. -/
theorem quietCycle : Obligations.QuietCycle :=
  fun _ => rfl

/-- Settles O38: a TICK in IDLE is a quiet cycle, and above 1 the timer counts down. -/
theorem tickStays : Obligations.TickStays := by
  refine fun s => ⟨fun hidle => ?_, fun hbusy htimer => ?_⟩
  · rw [exec_tick, tickCycle_of_idle hidle]
  · rw [exec_tick, tickCycle_of_running hbusy htimer]

/-- Settles O54: in an idle block the one input that is high acts as its event does, in a busy block only the tick
acts, as TICK does. -/
theorem eventsAreCycles : Obligations.EventsAreCycles := by
  intro s d o
  refine ⟨by rw [exec_reset, cycle_of_rst rfl], ?_⟩
  rw [exec_tick, exec_sample, exec_frameEnd, exec_start]
  by_cases h : s.tx.phase = .idle
  · rw [tickCycle_of_idle h, receiveSymbol_of_idle _ h, frameEndCycle_of_idle h, startCycle_of_idle _ h]
    refine ⟨?_, ?_, ?_, ?_⟩ <;> rw [cycle_of_idle rfl h] <;> rfl
  · rw [receiveSymbol_of_busy _ h, frameEndCycle_of_busy h, startCycle_of_busy _ h]
    refine ⟨?_, ?_, ?_, ?_⟩ <;> rw [cycle_of_busy rfl h] <;> rfl

/-- An accepted START writes the registers of R137, whatever its legal count. -/
theorem startTx_eq_startedTx (o : StartOperands) :
    startTx o = startedTx (2 + o.np.setWidth 3) o.b0 o.b1 o.b2 o.b3 := rfl

/-- Settles O55: each clause is the order of the events in an idle or in a busy cycle. -/
theorem cycleOrder : Obligations.CycleOrder := by
  refine ⟨fun p s hrst => ?_, fun s d o tick hidle => ?_, fun s d o tick sValid sEnd hidle hnp => ?_,
    fun p s hrst hbusy => ⟨fun htick => ?_, fun htick => ?_⟩⟩
  · rw [exec_reset, cycle_of_rst hrst]
  · have hphase : { s with rx := (cycle ⟨false, false, true, d, false, false, o⟩ s).rx }.tx.phase = .idle := hidle
    rw [exec_frameEnd, frameEndCycle_of_idle hphase, cycle_of_idle rfl hidle, cycle_of_idle rfl hidle]
    rfl
  · rw [cycle_of_idle rfl hidle, cycle_of_idle rfl hidle, ← startTx_eq_startedTx]
    simp only [legalCount_iff.2 hnp]
    rfl
  · rw [exec_tick, cycle_of_busy hrst hbusy, if_pos htick]
  · rw [cycle_of_busy hrst hbusy, if_neg (by simp [htick])]

/-! ## RX events and TX events -/

/-- The RX registers and the held outputs of the RX side, the strobes apart, are the same in two states. -/
def SameRxSide (s t : State) : Prop :=
  t.rx = s.rx ∧ t.out.fLen = s.out.fLen ∧ t.out.fBytes = s.out.fBytes ∧ t.out.fMatch = s.out.fMatch ∧
    t.out.rxDropReason = s.out.rxDropReason

theorem sameRxSide_refl (s : State) : SameRxSide s s :=
  ⟨rfl, rfl, rfl, rfl, rfl⟩

theorem sameRxSide_quiet (s : State) : SameRxSide s (quiet s) :=
  ⟨rfl, rfl, rfl, rfl, rfl⟩

theorem sameRxSide_startCycle (o : StartOperands) (s : State) : SameRxSide s (startCycle o s) := by
  rcases startCycle_cases o s with ⟨_, _, heq⟩ | ⟨_, heq⟩
  · rw [heq]
    exact sameRxSide_quiet s
  · rw [heq]
    exact sameRxSide_quiet s

theorem sameRxSide_callStart (o : Option StartOperands) (s : State) : SameRxSide s (callStart o s) := by
  cases o with
  | some ops => exact sameRxSide_startCycle ops s
  | none => exact sameRxSide_refl s

theorem sameRxSide_tickCycle (s : State) : SameRxSide s (tickCycle s) := by
  rcases tickCycle_cases s with ⟨_, heq⟩ | ⟨_, _, heq⟩ | ⟨_, _, heq⟩
  · rw [heq]
    exact sameRxSide_quiet s
  · rw [heq]
    exact sameRxSide_quiet s
  · rw [heq]
    exact sameRxSide_quiet s

theorem sameRxSide_sendSymbol (sym : TxSymbol) (s : State) : SameRxSide s (sendSymbol sym s) := by
  rcases sendSymbol_cases sym s with ⟨_, heq⟩ | ⟨_, heq⟩
  · rw [heq]
    exact sameRxSide_quiet s
  · rw [heq]
    exact sameRxSide_refl s

theorem sameRxSide_of_commandChannel {i : Instr} {s t : State} (hc : commandChannel (channelOf i))
    (hexec : exec i s = .next t) : SameRxSide s t := by
  obtain ⟨o, h⟩ := exec_of_commandChannel hc s
  exact exec_next_unique hexec h ▸ sameRxSide_callStart o s

/-- Settles O53: the operation of an RX row keeps the TX registers, the operation of a TX row the RX side. -/
theorem rxAndTxAreDisjoint : Obligations.RxAndTxAreDisjoint := by
  intro i s t hexec
  constructor
  · rintro (hpulse | hframe | rfl | ⟨d, rfl⟩)
    · obtain ⟨sym, h⟩ := exec_of_rxPulse hpulse s
      rw [exec_next_unique hexec h, receiveSymbol_tx]
    · obtain ⟨frame, h⟩ := exec_of_rxFrame hframe s
      rw [exec_next_unique hexec h, receiveFrame_tx]
    · rw [exec_next_unique hexec (exec_frameEnd s), frameEndCycle_tx]
    · rw [exec_next_unique hexec (exec_sample d s), receiveSymbol_tx]
  · rintro (hpulse | hc | hc | hc | hc | rfl | ⟨np, b0, b1, b2, b3, rfl⟩)
    · obtain ⟨sym, h⟩ := exec_of_txPulse hpulse s
      exact exec_next_unique hexec h ▸ sameRxSide_sendSymbol sym s
    · exact sameRxSide_of_commandChannel (.inl hc) hexec
    · exact sameRxSide_of_commandChannel (.inr (.inl hc)) hexec
    · exact sameRxSide_of_commandChannel (.inr (.inr (.inl hc))) hexec
    · exact sameRxSide_of_commandChannel (.inr (.inr (.inr hc))) hexec
    · exact exec_next_unique hexec (exec_tick s) ▸ sameRxSide_tickCycle s
    · exact exec_next_unique hexec (exec_start np b0 b1 b2 b3 s) ▸ sameRxSide_startCycle _ s

/-! ## The stimuli that are no words of an instruction -/

section Stimuli

variable {s : State} {rest : List Stimulus} {player disc track : Nat}

theorem step_of_pending_nil (h : s.pending = []) : step s = .next (quiet s) := by
  simp [step, fetch, h]

theorem step_of_pending_ports {p : PortInputs} (h : s.pending = .ports p :: rest) :
    step s = .next (cycle p (s.setPending rest)) := by
  rw [← consume_of_pending_cons h]
  simp [step, fetch, h]

theorem step_of_undecodable {c : Channel} {bytes : List Byte} {e : DecodeError}
    (hpending : s.pending = .word c bytes :: rest) (hdecode : decode c bytes = .error e) :
    step s = .refused (.undecodable e) := by
  simp [step, fetch_of_pending_word hpending, fetchWord, hdecode]

theorem fetch_of_pending_call (h : s.pending = .playDiscCall player disc track :: rest) :
    fetch s = fetchCall player disc track := by
  simp [fetch, h]

theorem step_of_pending_call_row {i : Instr} (hpending : s.pending = .playDiscCall player disc track :: rest)
    (hrow : playDiscRow player disc track = some i) : step s = exec i (s.setPending rest) := by
  have hfetch : fetch s = .instr i := by
    rw [fetch_of_pending_call hpending]
    simp [fetchCall, hrow]
  rw [step_of_fetch_instr hfetch, consume_of_pending_cons hpending]

theorem step_of_pending_call_refused (hpending : s.pending = .playDiscCall player disc track :: rest)
    (hrow : playDiscRow player disc track = none) : step s = .next (s.setPending rest) := by
  rw [← consume_of_pending_cons hpending]
  simp [step, fetch_of_pending_call hpending, fetchCall, hrow]

end Stimuli

/-- A call out of range is no row of the table (R161). -/
theorem playDiscRow_eq_none {player disc track : Nat}
    (h : ¬ ((player = 1 ∨ player = 2) ∧ 1 ≤ disc ∧ disc ≤ 300 ∧ track ≤ 99)) :
    playDiscRow player disc track = none := by
  unfold playDiscRow
  split
  · next hrange =>
    split
    · exact absurd ⟨.inl rfl, hrange⟩ h
    · exact absurd ⟨.inr rfl, hrange⟩ h
    · rfl
  · rfl

/-- Settles O6: one clause per kind of stimulus, a call with its row or refused. -/
theorem stepOtherStimuli : Obligations.StepOtherStimuli := by
  refine ⟨fun _ => step_of_pending_nil, fun _ _ _ => step_of_pending_ports, fun _ _ _ _ _ => step_of_undecodable,
    fun _ _ _ _ _ hpending hrange => step_of_pending_call_refused hpending (playDiscRow_eq_none hrange),
    fun _ _ _ _ hlow hhigh htrack => ⟨fun hpending => ?_, fun hpending => ?_⟩⟩
  · exact step_of_pending_call_row hpending (by simp [playDiscRow, hlow, hhigh, htrack])
  · exact step_of_pending_call_row hpending (by simp [playDiscRow, hlow, hhigh, htrack])

/-! ## The output ports and the state after reset -/

theorem driveOf_iff (phase : TxPhase) : driveOf phase = true ↔ phase = .syncA ∨ phase = .bitA := by
  cases phase <;> simp [driveOf]

theorem outputs_txBusy_iff (s : State) : (outputs s).txBusy = true ↔ s.tx.phase ≠ .idle := by
  simp [outputs, idle_false_iff]

theorem outputs_rxDropReason {s : State} {reason : DropReason} (h : s.out.rxDropReason = reason) :
    (outputs s).rxDropReason = dropReasonCode reason :=
  congrArg dropReasonCode h

/-- Settles O58: readiness and the drive follow the phase, the other ports show their registers. -/
theorem outputsFollowPhase : Obligations.OutputsFollowPhase := by
  refine ⟨fun s => ⟨idle_iff s, idle_iff s, outputs_txBusy_iff s, driveOf_iff s.tx.phase, rfl, rfl, rfl, rfl, rfl, rfl,
    outputs_rxDropReason, outputs_rxDropReason, outputs_rxDropReason, outputs_rxDropReason, outputs_rxDropReason,
    outputs_rxDropReason⟩, rfl, rfl, rfl, rfl, rfl, rfl, rfl, rfl, rfl, rfl⟩

theorem reset_rx_clean : RxClean State.reset.rx :=
  ⟨rfl, rfl, rfl, rfl, rfl, rfl⟩

/-- Settles O57: each value of the table stands in the definition of the reset state. -/
theorem resetState : Obligations.ResetState :=
  ⟨reset_rx_clean, rfl, rfl, rfl, rfl, rfl, rfl, rfl, rfl, rfl, rfl, rfl, rfl, rfl, rfl, rfl, rfl⟩

theorem adjInv_created : AdjInv Adjacent.created := by
  simp [AdjInv, Adjacent.created, TrackStatus.created]

/-- Settles O59: clean RX registers, an idle timer at 0, no frame held and a record at creation. -/
theorem invAtReset : Obligations.InvAtReset :=
  ⟨rxInv_of_clean reset_rx_clean, txInv_of_idle rfl rfl, outInv_of_no_frame rfl rfl rfl rfl, adjInv_created⟩

end Sys2Proof.Proofs.RegisterState
end

section
/-! The block's storage while a command is sent (20_memory.md R50, 43_serializer.md R149): what is left of each
instruction in a busy block, and that none of it reaches the RX registers, the held frame or the adjacent record. -/

namespace Sys2Proof.Proofs.Memory

open Sys2Proof.Machine Sys2Proof.Proofs.RegisterState

/-! ## What an instruction can do in a busy block -/

/-- What is left of the shared operations, RESET apart, when the block is busy: no pulse, frame end or START is taken
(R13, R149, R151). -/
inductive BusyEffect (s : State) : State → Prop where
  | ignored : BusyEffect s (quiet s)
  | unchanged : BusyEffect s s
  | tick : BusyEffect s (tickCycle s)
  | send (sym : TxSymbol) : BusyEffect s (sendSymbol sym s)
  | result (r : OpResult) : BusyEffect s (s.setOpResult r)

section Busy

variable {s : State}

/-- The pulses of the frame leave the block busy, so its end is not taken either. -/
theorem receiveFrame_of_busy (frame : List Byte) (h : s.tx.phase ≠ .idle) : receiveFrame frame s = quiet s := by
  have hphase : (runSamples (framePulses frame) s).tx.phase ≠ .idle := by rwa [runSamples_tx]
  rw [receiveFrame, frameEndCycle_of_busy hphase]
  rcases runSamples_busy (framePulses frame) s h with heq | heq
  · rw [heq]
  · rw [heq, quiet_quiet]

theorem busyEffect_receiveSymbol (sym : Symbol) (h : s.tx.phase ≠ .idle) : BusyEffect s (receiveSymbol sym s) :=
  receiveSymbol_of_busy sym h ▸ .ignored

theorem busyEffect_startCycle (o : StartOperands) (h : s.tx.phase ≠ .idle) : BusyEffect s (startCycle o s) :=
  startCycle_of_busy o h ▸ .ignored

theorem busyEffect_callStart (o : Option StartOperands) (h : s.tx.phase ≠ .idle) : BusyEffect s (callStart o s) := by
  cases o with
  | some ops => exact busyEffect_startCycle ops h
  | none => exact .unchanged

theorem busyEffect_of_commandChannel {i : Instr} {t : State} (h : s.tx.phase ≠ .idle)
    (hc : commandChannel (channelOf i)) (hexec : exec i s = .next t) : BusyEffect s t := by
  obtain ⟨o, hcall⟩ := exec_of_commandChannel hc s
  exact exec_next_unique hexec hcall ▸ busyEffect_callStart o h

theorem busyEffect_of_event {i : Instr} {t : State} (h : s.tx.phase ≠ .idle) (hreset : i ≠ .reset)
    (hc : channelOf i = .event) (hexec : exec i s = .next t) : BusyEffect s t := by
  cases i with
  | reset => exact absurd rfl hreset
  | sample d => exact exec_next_unique hexec (exec_sample d s) ▸ busyEffect_receiveSymbol _ h
  | frameEnd => exact exec_next_unique hexec (exec_frameEnd s) ▸ frameEndCycle_of_busy h ▸ .ignored
  | start np b0 b1 b2 b3 => exact exec_next_unique hexec (exec_start np b0 b1 b2 b3 s) ▸ busyEffect_startCycle _ h
  | tick => exact exec_next_unique hexec (exec_tick s) ▸ .tick
  | _ => simp [channelOf] at hc

/-- An instruction other than RESET ticks a busy block, sends its due symbol or computes a result; every other one is
not taken. -/
theorem busyEffect_of_exec {i : Instr} {t : State} (h : s.tx.phase ≠ .idle) (hreset : i ≠ .reset)
    (hexec : exec i s = .next t) : BusyEffect s t := by
  cases hc : channelOf i with
  | rxPulse =>
    obtain ⟨sym, hpulse⟩ := exec_of_rxPulse hc s
    exact exec_next_unique hexec hpulse ▸ busyEffect_receiveSymbol sym h
  | rxFrame =>
    obtain ⟨frame, hframe⟩ := exec_of_rxFrame hc s
    exact exec_next_unique hexec hframe ▸ receiveFrame_of_busy frame h ▸ .ignored
  | txPulse =>
    obtain ⟨sym, hsend⟩ := exec_of_txPulse hc s
    exact exec_next_unique hexec hsend ▸ .send sym
  | txCommand => exact busyEffect_of_commandChannel h (.inl hc) hexec
  | sendCommand => exact busyEffect_of_commandChannel h (.inr (.inl hc)) hexec
  | playDisc => exact busyEffect_of_commandChannel h (.inr (.inr (.inl hc))) hexec
  | named => exact busyEffect_of_commandChannel h (.inr (.inr (.inr hc))) hexec
  | event => exact busyEffect_of_event h hreset hc hexec
  | operation =>
    obtain ⟨r, hresult⟩ := exec_of_operation hc s
    exact exec_next_unique hexec hresult ▸ .result r

end Busy

/-! ## Neither delivery nor drop -/

/-- Nothing is received between two states: the RX side is the same, and so are the record that the decoders of a
delivery write and the counter of the free values that a delivery draws. -/
def NothingReceived (s t : State) : Prop :=
  SameRxSide s t ∧ t.adj.status = s.adj.status ∧ t.draws = s.draws

theorem nothingReceived_tickCycle (s : State) : NothingReceived s (tickCycle s) := by
  refine ⟨sameRxSide_tickCycle s, ?_⟩
  rcases tickCycle_cases s with ⟨_, heq⟩ | ⟨_, _, heq⟩ | ⟨_, _, heq⟩ <;> rw [heq] <;> exact ⟨rfl, rfl⟩

theorem nothingReceived_sendSymbol (sym : TxSymbol) (s : State) : NothingReceived s (sendSymbol sym s) := by
  refine ⟨sameRxSide_sendSymbol sym s, ?_⟩
  rcases sendSymbol_cases sym s with ⟨_, heq⟩ | ⟨_, heq⟩ <;> rw [heq] <;> exact ⟨rfl, rfl⟩

theorem nothingReceived_of_busyEffect {s t : State} (h : BusyEffect s t) : NothingReceived s t := by
  cases h with
  | ignored => exact ⟨sameRxSide_quiet s, rfl, rfl⟩
  | unchanged => exact ⟨sameRxSide_refl s, rfl, rfl⟩
  | tick => exact nothingReceived_tickCycle s
  | send sym => exact nothingReceived_sendSymbol sym s
  | result r => exact ⟨sameRxSide_refl s, rfl, rfl⟩

/-- Settles O52: what is left of an instruction in a busy block receives nothing. -/
theorem busyFreezesRx : Obligations.BusyFreezesRx := by
  intro i s t hbusy hreset hexec
  obtain ⟨⟨hrx, hlen, hbytes, hmatch, hreason⟩, hstatus, hdraws⟩ :=
    nothingReceived_of_busyEffect (busyEffect_of_exec hbusy hreset hexec)
  exact ⟨hrx, hlen, hbytes, hmatch, hreason, hstatus, hdraws⟩

end Sys2Proof.Proofs.Memory
end

section
/-! Words and instructions (30_encoding.md): the decoder undoes the encoder on every channel and back, a playDisc word
is the row its bytes spell, and the rows of received and sent symbols, received frames and commands are the events they
stand for. -/

namespace Sys2Proof.Proofs.Encoding

open Sys2Proof.Machine Sys2Proof.Safety Sys2Proof.Proofs.RegisterState

/-! ## The symbol of a duration -/

theorem classify_cases (d : Duration) :
    (d.toNat ≤ 899 ∧ classify d = .zero) ∨ (900 ≤ d.toNat ∧ d.toNat ≤ 1999 ∧ classify d = .one) ∨
    (2000 ≤ d.toNat ∧ d.toNat ≤ 4999 ∧ classify d = .sync) ∨
    (5000 ≤ d.toNat ∧ d.toNat ≤ 200000 ∧ classify d = .noise) ∨ (200001 ≤ d.toNat ∧ classify d = .gap) := by
  fun_cases classify d with
  | case1 hgap => exact .inr (.inr (.inr (.inr ⟨hgap, rfl⟩)))
  | case2 _ hsync => exact .inr (.inr (.inl ⟨hsync.1, Nat.le_of_lt_succ hsync.2, rfl⟩))
  | case3 _ _ hone => exact .inr (.inl ⟨hone.1, Nat.le_of_lt_succ hone.2, rfl⟩)
  | case4 _ _ _ hzero => exact .inl ⟨Nat.le_of_lt_succ hzero, rfl⟩
  | case5 hgap hsync hone hzero =>
    simp only [Config.thOne, Config.thSync, Config.thNoise, Config.thGap] at hgap hsync hone hzero
    exact .inr (.inr (.inr (.inl ⟨by omega, by omega, rfl⟩)))

/-- The conditions of R90 in their order cut the durations into the five ranges of R62. -/
theorem classify_iff (d : Duration) :
    (classify d = .zero ↔ d.toNat ≤ 899) ∧
    (classify d = .one ↔ 900 ≤ d.toNat ∧ d.toNat ≤ 1999) ∧
    (classify d = .sync ↔ 2000 ≤ d.toNat ∧ d.toNat ≤ 4999) ∧
    (classify d = .noise ↔ 5000 ≤ d.toNat ∧ d.toNat ≤ 200000) ∧
    (classify d = .gap ↔ 200001 ≤ d.toNat) := by
  rcases classify_cases d with ⟨_, h⟩ | ⟨_, _, h⟩ | ⟨_, _, h⟩ | ⟨_, _, h⟩ | ⟨_, h⟩ <;> simp [h] <;> omega

/-- Settles O9: the five ranges, and the bit values as the definition gives them. -/
theorem classifyRanges : Obligations.ClassifyRanges :=
  ⟨classify_iff, rfl, rfl, rfl, rfl, rfl⟩

/-! ## Received pulses -/

/-- The received-pulse row of a symbol. -/
def rxsymRow (sym : Symbol) (d : Duration) : Instr :=
  match sym with
  | .zero => .rxsymZero d
  | .one => .rxsymOne d
  | .sync => .rxsymSync d
  | .noise => .rxsymNoise d
  | .gap => .rxsymGap d

@[simp] theorem channelOf_rxsymRow (sym : Symbol) (d : Duration) : channelOf (rxsymRow sym d) = .rxPulse := by
  cases sym <;> rfl

@[simp] theorem encode_rxsymRow (sym : Symbol) (d : Duration) : encode (rxsymRow sym d) = durationBytes d := by
  cases sym <;> rfl

theorem exec_rxsymRow (sym : Symbol) (d : Duration) (s : State) :
    exec (rxsymRow sym d) s = .next (receiveSymbol sym s) := by
  cases sym <;> rfl

/-- The operand range of a received-pulse row is the range in which the classifier gives its symbol. -/
theorem rxsymRow_wellFormed_iff (sym : Symbol) (d : Duration) :
    (rxsymRow sym d).wellFormed = true ↔ classify d = sym := by
  obtain ⟨hzero, hone, hsync, hnoise, hgap⟩ := classify_iff d
  cases sym with
  | zero => simp [rxsymRow, Instr.wellFormed, hzero]
  | one => simp [rxsymRow, Instr.wellFormed, hone]
  | sync => simp [rxsymRow, Instr.wellFormed, hsync]
  | noise => simp [rxsymRow, Instr.wellFormed, hnoise]
  | gap => simp [rxsymRow, Instr.wellFormed, hgap]

theorem exec_rxsymRow_eq_sample {sym : Symbol} {d : Duration} (s : State) (h : (rxsymRow sym d).wellFormed = true) :
    exec (rxsymRow sym d) s = exec (.sample d) s := by
  rw [exec_rxsymRow, exec_sample, (rxsymRow_wellFormed_iff sym d).1 h]

/-- Settles O20: the operand range of a row is the range of its symbol, and SAMPLE looks at the symbol alone. -/
theorem rxsymIsSample : Obligations.RxsymIsSample :=
  fun _ s => ⟨exec_rxsymRow_eq_sample (sym := .zero) s, exec_rxsymRow_eq_sample (sym := .one) s,
    exec_rxsymRow_eq_sample (sym := .sync) s, exec_rxsymRow_eq_sample (sym := .noise) s,
    exec_rxsymRow_eq_sample (sym := .gap) s⟩

/-! ## The bytes of a duration -/

theorem durationOf_toNat (a b c d : Byte) :
    (durationOf a b c d).toNat = 16777216 * a.toNat + 65536 * b.toNat + 256 * c.toNat + d.toNat := by
  have append_toNat {n : Nat} (x : BitVec n) (y : Byte) : (x ++ y).toNat = 256 * x.toNat + y.toNat := by
    rw [BitVec.toNat_append, ← Nat.shiftLeft_add_eq_or_of_lt y.isLt, Nat.shiftLeft_eq]
    omega
  simp only [durationOf, append_toNat]
  omega

theorem durationOf_durationBytes (d : Duration) :
    durationOf (d.extractLsb' 24 8) (d.extractLsb' 16 8) (d.extractLsb' 8 8) (d.extractLsb' 0 8) = d := by
  have hlt : d.toNat < 4294967296 := d.isLt
  apply BitVec.eq_of_toNat_eq
  rw [durationOf_toNat]
  simp only [BitVec.extractLsb'_toNat, Nat.shiftRight_eq_div_pow, Nat.reducePow]
  omega

theorem durationBytes_durationOf (a b c d : Byte) : durationBytes (durationOf a b c d) = [a, b, c, d] := by
  have ha := a.isLt
  have hb := b.isLt
  have hc := c.isLt
  have hd := d.isLt
  simp only [durationBytes, List.cons.injEq, and_true]
  refine ⟨?_, ?_, ?_, ?_⟩ <;> apply BitVec.eq_of_toNat_eq <;>
    simp only [BitVec.extractLsb'_toNat, Nat.shiftRight_eq_div_pow, Nat.reducePow, durationOf_toNat] <;> omega

theorem decodeRxPulse_eq (a b c d : Byte) :
    decodeRxPulse [a, b, c, d] = .ok (rxsymRow (classify (durationOf a b c d)) (durationOf a b c d)) := by
  simp only [decodeRxPulse]
  cases classify (durationOf a b c d) <;> rfl

theorem decodeRxPulse_durationBytes (d : Duration) :
    decodeRxPulse (durationBytes d) = .ok (rxsymRow (classify d) d) := by
  rw [durationBytes, decodeRxPulse_eq, durationOf_durationBytes]

theorem decode_encode_rxsymRow {sym : Symbol} {d : Duration} (h : (rxsymRow sym d).wellFormed = true) :
    decodeRxPulse (encode (rxsymRow sym d)) = .ok (rxsymRow sym d) := by
  rw [encode_rxsymRow, decodeRxPulse_durationBytes, (rxsymRow_wellFormed_iff sym d).1 h]

/-! ## The shapes of frames -/

theorem exists_header_of_length {frame : List Byte} {n : Nat} (h : frame.length = n + 4) :
    ∃ a b c d payload, frame = a :: b :: c :: d :: payload ∧ payload.length = n := by
  match frame, h with
  | a :: b :: c :: d :: payload, h => exact ⟨a, b, c, d, payload, rfl, by simpa using h⟩

section Header

variable (a b c d : Byte) (payload : List Byte)

@[simp] theorem frameByte_header_zero : frameByte (a :: payload) 0 = a := rfl

@[simp] theorem frameByte_header_one : frameByte (a :: b :: payload) 1 = b := rfl

@[simp] theorem frameByte_header_two : frameByte (a :: b :: c :: payload) 2 = c := rfl

@[simp] theorem frameByte_header_three : frameByte (a :: b :: c :: d :: payload) 3 = d := rfl

end Header

theorem matchTransport_iff (frame : List Byte) :
    matchTransport frame.length frame = true ↔ ∃ second code, frame = transportFrame second code := by
  constructor
  · intro h
    simp only [matchTransport, Bool.and_eq_true, beq_iff_eq, Bool.or_eq_true] at h
    obtain ⟨⟨⟨hlen, hlead⟩, hdev⟩, hzero⟩ := h
    obtain ⟨a, b, c, code, payload, rfl, hp⟩ := exists_header_of_length (n := 0) hlen
    obtain rfl := List.length_eq_zero_iff.1 hp
    obtain rfl : a = 0x41 := hlead
    obtain rfl : c = 0x00 := hzero
    rcases hdev with hb | hb
    · obtain rfl : b = 0x40 := hb
      exact ⟨false, code, rfl⟩
    · obtain rfl : b = 0x44 := hb
      exact ⟨true, code, rfl⟩
  · rintro ⟨second, code, rfl⟩
    cases second <;> simp [matchTransport, transportFrame]

/-- A length and three header bytes fix a frame up to its device byte and its payload (R66 to R68). -/
theorem statusHeader_iff (n : Nat) (kind sub : Byte) (frame : List Byte) :
    (frame.length == n + 4 && frameByte frame 0 == 0x41 && frameByte frame 2 == kind &&
        frameByte frame 3 == sub) = true ↔
      ∃ device payload, payload.length = n ∧ frame = 0x41 :: device :: kind :: sub :: payload := by
  constructor
  · intro h
    simp only [Bool.and_eq_true, beq_iff_eq] at h
    obtain ⟨⟨⟨hlen, hlead⟩, hkind⟩, hsub⟩ := h
    obtain ⟨a, device, c, d, payload, rfl, hp⟩ := exists_header_of_length hlen
    obtain rfl : a = 0x41 := hlead
    obtain rfl : c = kind := hkind
    obtain rfl : d = sub := hsub
    exact ⟨device, payload, hp, rfl⟩
  · rintro ⟨device, payload, hp, rfl⟩
    simp [hp]

theorem matchTrackStatus_iff (frame : List Byte) :
    matchTrackStatus frame.length frame = true ↔
      ∃ device payload, payload.length = 8 ∧ frame = trackStatusFrame device payload :=
  statusHeader_iff 8 0x11 0x00 frame

theorem matchTimeStatus_iff (frame : List Byte) :
    matchTimeStatus frame.length frame = true ↔
      ∃ device payload, payload.length = 8 ∧ frame = timeStatusFrame device payload :=
  statusHeader_iff 8 0x11 0x01 frame

theorem matchExtendedStatus_iff (frame : List Byte) :
    matchExtendedStatus frame.length frame = true ↔
      ∃ device payload, payload.length = 10 ∧ frame = extendedStatusFrame device payload :=
  statusHeader_iff 10 0x15 0x00 frame

theorem matchHeartbeat_iff (frame : List Byte) :
    matchHeartbeat frame.length frame = true ↔ frame = heartbeatFrame := by
  constructor
  · intro h
    simp only [matchHeartbeat, Bool.and_eq_true, beq_iff_eq] at h
    obtain ⟨⟨⟨⟨hlen, hlead⟩, hdev⟩, hzero⟩, hlast⟩ := h
    obtain ⟨a, b, c, d, payload, rfl, hp⟩ := exists_header_of_length (n := 0) hlen
    obtain rfl := List.length_eq_zero_iff.1 hp
    obtain rfl : a = 0x41 := hlead
    obtain rfl : b = 0x04 := hdev
    obtain rfl : c = 0x00 := hzero
    obtain rfl : d = 0x55 := hlast
    rfl
  · rintro rfl
    rfl

/-! ## Received frames

The header and the length of a frame keep it inside the bounds of R64 and apart from the shapes that are tested before
its own. -/

theorem decodeRxFrame_transport (second : Bool) (code : Byte) :
    decodeRxFrame (transportFrame second code) = .ok (.frameTransport second code) := by
  cases second <;> rfl

theorem decodeRxFrame_trackStatus (device : Byte) {payload : List Byte} (h : payload.length = 8) :
    decodeRxFrame (trackStatusFrame device payload) = .ok (.frameTrackstatus device payload) := by
  simp [decodeRxFrame, trackStatusFrame, matchTransport, matchTrackStatus, h, Config.frameMax, Config.lead]

theorem decodeRxFrame_timeStatus (device : Byte) {payload : List Byte} (h : payload.length = 8) :
    decodeRxFrame (timeStatusFrame device payload) = .ok (.frameTimestatus device payload) := by
  simp [decodeRxFrame, timeStatusFrame, matchTransport, matchTrackStatus, matchTimeStatus, h, Config.frameMax,
    Config.lead]

theorem decodeRxFrame_extendedStatus (device : Byte) {payload : List Byte} (h : payload.length = 10) :
    decodeRxFrame (extendedStatusFrame device payload) = .ok (.frameExtendedstatus device payload) := by
  simp [decodeRxFrame, extendedStatusFrame, matchTransport, matchTrackStatus, matchTimeStatus, matchExtendedStatus, h,
    Config.frameMax, Config.lead]

theorem matchUnknown_iff (len : Nat) (frame : List Byte) :
    matchUnknown len frame = true ↔
      matchTransport len frame = false ∧ matchTrackStatus len frame = false ∧ matchTimeStatus len frame = false ∧
        matchExtendedStatus len frame = false ∧ matchHeartbeat len frame = false := by
  simp [matchUnknown, and_assoc]

theorem frameUnknown_wellFormed_iff (frame : List Byte) :
    (Instr.frameUnknown frame).wellFormed = true ↔
      (1 ≤ frame.length ∧ frame.length ≤ Config.frameMax ∧ frameByte frame 0 = Config.lead) ∧
        matchUnknown frame.length frame = true := by
  simp [Instr.wellFormed, and_assoc]

theorem decodeRxFrame_unknown {frame : List Byte} (h : (Instr.frameUnknown frame).wellFormed = true) :
    decodeRxFrame frame = .ok (.frameUnknown frame) := by
  obtain ⟨hvalid, hunknown⟩ := (frameUnknown_wellFormed_iff frame).1 h
  obtain ⟨htransport, htrack, htime, hextended, hheartbeat⟩ := (matchUnknown_iff _ _).1 hunknown
  simp [decodeRxFrame, hvalid, htransport, htrack, htime, hextended, hheartbeat]

/-- A word of a channel has one meaning: the instruction it decodes to is of that channel, is encoded by that word and
is well-formed. -/
def Spells (c : Channel) (bytes : List Byte) (i : Instr) : Prop :=
  channelOf i = c ∧ encode i = bytes ∧ i.wellFormed = true

theorem spells_of_unique {decoded : Except DecodeError Instr} {c : Channel} {bytes : List Byte} {i j : Instr}
    (hi : decoded = .ok i) (hj : decoded = .ok j) (h : Spells c bytes j) : Spells c bytes i :=
  Except.ok.inj (hj.symm.trans hi) ▸ h

theorem frame_shape_cases (frame : List Byte) :
    (∃ second code, frame = transportFrame second code) ∨
    (∃ device payload, payload.length = 8 ∧ frame = trackStatusFrame device payload) ∨
    (∃ device payload, payload.length = 8 ∧ frame = timeStatusFrame device payload) ∨
    (∃ device payload, payload.length = 10 ∧ frame = extendedStatusFrame device payload) ∨
    frame = heartbeatFrame ∨ matchUnknown frame.length frame = true := by
  rw [← matchTransport_iff, ← matchTrackStatus_iff, ← matchTimeStatus_iff, ← matchExtendedStatus_iff,
    ← matchHeartbeat_iff, matchUnknown_iff]
  simp only [← Bool.not_eq_true]
  tauto

theorem valid_of_decodeRxFrame {frame : List Byte} {i : Instr} (h : decodeRxFrame frame = .ok i) :
    1 ≤ frame.length ∧ frame.length ≤ Config.frameMax ∧ frameByte frame 0 = Config.lead := by
  by_contra hinvalid
  rw [decodeRxFrame, if_neg hinvalid] at h
  cases h

theorem spells_of_decodeRxFrame {frame : List Byte} {i : Instr} (h : decodeRxFrame frame = .ok i) :
    Spells .rxFrame frame i := by
  rcases frame_shape_cases frame with ⟨second, code, rfl⟩ | ⟨device, payload, hlen, rfl⟩ |
    ⟨device, payload, hlen, rfl⟩ | ⟨device, payload, hlen, rfl⟩ | rfl | hunknown
  · exact spells_of_unique h (decodeRxFrame_transport second code) ⟨rfl, rfl, rfl⟩
  · exact spells_of_unique h (decodeRxFrame_trackStatus device hlen) ⟨rfl, rfl, beq_iff_eq.2 hlen⟩
  · exact spells_of_unique h (decodeRxFrame_timeStatus device hlen) ⟨rfl, rfl, beq_iff_eq.2 hlen⟩
  · exact spells_of_unique h (decodeRxFrame_extendedStatus device hlen) ⟨rfl, rfl, beq_iff_eq.2 hlen⟩
  · exact spells_of_unique h (j := .frameHeartbeat) rfl ⟨rfl, rfl, rfl⟩
  · have hwf := (frameUnknown_wellFormed_iff frame).2 ⟨valid_of_decodeRxFrame h, hunknown⟩
    exact spells_of_unique h (decodeRxFrame_unknown hwf) ⟨rfl, rfl, hwf⟩

/-! ## The other channels but playDisc -/

theorem spells_of_decodeRxPulse {bytes : List Byte} {i : Instr} (h : decodeRxPulse bytes = .ok i) :
    Spells .rxPulse bytes i := by
  match bytes with
  | [a, b, c, d] =>
    rw [decodeRxPulse_eq] at h
    obtain rfl := Except.ok.inj h
    exact ⟨channelOf_rxsymRow _ _, (encode_rxsymRow _ _).trans (durationBytes_durationOf a b c d),
      (rxsymRow_wellFormed_iff _ _).2 rfl⟩
  | [] | [_] | [_, _] | [_, _, _] | _ :: _ :: _ :: _ :: _ :: _ => cases h

theorem spells_of_decodeTxPulse {bytes : List Byte} {i : Instr} (h : decodeTxPulse bytes = .ok i) :
    Spells .txPulse bytes i := by
  unfold decodeTxPulse at h
  split_ifs at h <;> cases h <;> subst_vars <;> exact ⟨rfl, rfl, rfl⟩

theorem spells_of_decodeTxCommand {bytes : List Byte} {i : Instr} (h : decodeTxCommand bytes = .ok i) :
    Spells .txCommand bytes i := by
  unfold decodeTxCommand at h
  split at h <;> cases h <;> exact ⟨rfl, rfl, rfl⟩

theorem spells_of_decodeSendCommand {bytes : List Byte} {i : Instr} (h : decodeSendCommand bytes = .ok i) :
    Spells .sendCommand bytes i := by
  unfold decodeSendCommand at h
  split at h <;> cases h <;> exact ⟨rfl, rfl, rfl⟩

theorem spells_of_decodeNamed {bytes : List Byte} {i : Instr} (h : decodeNamed bytes = .ok i) :
    Spells .named bytes i := by
  unfold decodeNamed at h
  split_ifs at h <;> cases h <;> subst_vars <;> exact ⟨rfl, rfl, rfl⟩

/-- The parameter count of a START goes to a byte and back (R11). -/
theorem extractLsb'_setWidth_count (np : BitVec 2) : (np.setWidth 8).extractLsb' 0 2 = np := by
  have := np.isLt
  apply BitVec.eq_of_toNat_eq
  simp only [BitVec.extractLsb'_toNat, BitVec.toNat_setWidth, Nat.shiftRight_zero]
  omega

theorem setWidth_extractLsb'_count {np : Byte} (h : np.toNat ≤ 3) : (np.extractLsb' 0 2).setWidth 8 = np := by
  apply BitVec.eq_of_toNat_eq
  simp only [BitVec.extractLsb'_toNat, BitVec.toNat_setWidth, Nat.shiftRight_zero]
  omega

theorem decodeStart_count (np : BitVec 2) (b0 b1 b2 b3 : Byte) :
    decodeStart (np.setWidth 8) b0 b1 b2 b3 = .ok (.start np b0 b1 b2 b3) := by
  have hfits : (np.setWidth 8).toNat ≤ 3 := by
    simp only [BitVec.toNat_setWidth]
    omega
  rw [decodeStart, if_pos hfits, extractLsb'_setWidth_count]

theorem spells_of_decodeStart {np b0 b1 b2 b3 : Byte} {i : Instr} (h : decodeStart np b0 b1 b2 b3 = .ok i) :
    Spells .event [3, np, b0, b1, b2, b3] i := by
  unfold decodeStart at h
  split_ifs at h with hfits
  obtain rfl := Except.ok.inj h
  exact ⟨rfl, by rw [encode, setWidth_extractLsb'_count hfits], rfl⟩

theorem spells_of_decodeEvent {bytes : List Byte} {i : Instr} (h : decodeEvent bytes = .ok i) :
    Spells .event bytes i := by
  unfold decodeEvent at h
  split at h
  · split_ifs at h with hreset hend htick <;> obtain rfl := Except.ok.inj h
    · exact ⟨rfl, by rw [hreset]; rfl, rfl⟩
    · exact ⟨rfl, by rw [hend]; rfl, rfl⟩
    · exact ⟨rfl, by rw [htick]; rfl, rfl⟩
  · next op a b c d =>
    split_ifs at h with hsample
    obtain rfl := Except.ok.inj h
    exact ⟨rfl, by rw [encode, durationBytes_durationOf, hsample], rfl⟩
  · split_ifs at h with hstart
    rw [hstart]
    exact spells_of_decodeStart h
  · cases h

theorem decodeDispatch_of_wellFormed {frame : List Byte} (h : (Instr.dispatch frame).wellFormed = true) :
    decodeDispatch frame = .ok (.dispatch frame) := by
  have hvalid : 1 ≤ frame.length ∧ frame.length ≤ Config.frameMax ∧ frameByte frame 0 = Config.lead := by
    simpa [Instr.wellFormed, and_assoc] using h
  rw [decodeDispatch, if_pos hvalid]

theorem spells_of_decodeClassify {bytes : List Byte} {i : Instr} (h : decodeClassify bytes = .ok i) :
    Spells .operation (0 :: bytes) i := by
  unfold decodeClassify at h
  split at h
  · obtain rfl := Except.ok.inj h
    exact ⟨rfl, by rw [encode, durationBytes_durationOf], rfl⟩
  · cases h

theorem spells_of_decodeDispatch {frame : List Byte} {i : Instr} (h : decodeDispatch frame = .ok i) :
    Spells .operation (1 :: frame) i := by
  unfold decodeDispatch at h
  split_ifs at h with hvalid
  obtain rfl := Except.ok.inj h
  exact ⟨rfl, rfl, by simpa [Instr.wellFormed, and_assoc] using hvalid⟩

theorem spells_of_decodeOperation {bytes : List Byte} {i : Instr} (h : decodeOperation bytes = .ok i) :
    Spells .operation bytes i := by
  unfold decodeOperation at h
  split at h
  · split_ifs at h with hclassify hdispatch
    · rw [hclassify]
      exact spells_of_decodeClassify h
    · rw [hdispatch]
      exact spells_of_decodeDispatch h
  · cases h

/-- Settles O2: each channel but playDisc on its own. -/
theorem encodeDecode : Obligations.EncodeDecode := by
  intro c bytes i hc h
  cases c with
  | rxPulse => exact spells_of_decodeRxPulse h
  | rxFrame => exact spells_of_decodeRxFrame h
  | txPulse => exact spells_of_decodeTxPulse h
  | txCommand => exact spells_of_decodeTxCommand h
  | sendCommand => exact spells_of_decodeSendCommand h
  | playDisc => exact absurd rfl hc
  | named => exact spells_of_decodeNamed h
  | event => exact spells_of_decodeEvent h
  | operation => exact spells_of_decodeOperation h

/-! ## The bytes of playDisc -/

theorem bcd_toNat {t : Nat} (h : t ≤ 99) : (bcd t).toNat = 16 * (t / 10) + t % 10 := by
  rw [bcd, BitVec.toNat_ofNat]
  omega

theorem discByte_toNat_of_le_99 {n : Nat} (h : n ≤ 99) : (discByte n).toNat = 16 * (n / 10) + n % 10 := by
  rw [discByte, if_pos h, bcd_toNat h]

theorem discByte_toNat_of_le_200 {n : Nat} (hlow : 100 ≤ n) (hhigh : n ≤ 200) : (discByte n).toNat = n + 54 := by
  rw [discByte, if_neg (by omega), if_pos hhigh, BitVec.toNat_ofNat]
  omega

theorem discByte_toNat_of_le_300 {n : Nat} (hlow : 201 ≤ n) (hhigh : n ≤ 300) : (discByte n).toNat = n - 200 := by
  rw [discByte, if_neg (by omega), if_neg (by omega), BitVec.toNat_ofNat]
  omega

theorem trackOfByte_bcd {t : Nat} (h : t ≤ 99) : trackOfByte (bcd t) = t := by
  rw [trackOfByte, bcd_toNat h, if_pos (by omega)]
  omega

theorem bcd_trackOfByte {b : Byte} (h : trackOfByte b ≤ 99) : bcd (trackOfByte b) = b := by
  apply BitVec.eq_of_toNat_eq
  rw [bcd_toNat h]
  unfold trackOfByte at h ⊢
  split at h
  · rw [if_pos ‹_›]
    omega
  · omega

theorem discOfLowByte_discByte {n : Nat} (hpos : 1 ≤ n) (hhigh : n ≤ 200) : discOfLowByte (discByte n) = n := by
  unfold discOfLowByte
  by_cases hbcd : n ≤ 99
  · rw [discByte_toNat_of_le_99 hbcd, if_pos (by omega)]
    omega
  · rw [discByte_toNat_of_le_200 (by omega) hhigh, if_neg (by omega), if_pos (by omega)]
    omega

theorem discByte_discOfLowByte {b : Byte} (h : 1 ≤ discOfLowByte b) : discByte (discOfLowByte b) = b := by
  apply BitVec.eq_of_toNat_eq
  unfold discOfLowByte at h ⊢
  split_ifs at h ⊢ with hbcd hindex
  · rw [discByte_toNat_of_le_99 (by omega)]
    omega
  · rw [discByte_toNat_of_le_200 (by omega) (by omega)]
    omega
  · omega

theorem discOfHighByte_discByte {n : Nat} (hlow : 201 ≤ n) (hhigh : n ≤ 300) : discOfHighByte (discByte n) = n := by
  rw [discOfHighByte, discByte_toNat_of_le_300 hlow hhigh, if_pos (by omega)]
  omega

theorem discByte_discOfHighByte {b : Byte} (h : 201 ≤ discOfHighByte b) : discByte (discOfHighByte b) = b := by
  apply BitVec.eq_of_toNat_eq
  unfold discOfHighByte at h ⊢
  split_ifs at h ⊢ with hindex
  · rw [discByte_toNat_of_le_300 (by omega) (by omega)]
    omega
  · omega

/-! ## Decoding undoes encoding -/

section PlayDiscRows

variable (cmd disc track : Byte)

theorem decodePlayDisc_p1Low : decodePlayDisc [0x90, cmd, disc, track] =
    .ok (.playDiscP1Low (discOfLowByte disc) (trackOfByte track)) := rfl

theorem decodePlayDisc_p1High : decodePlayDisc [0x93, cmd, disc, track] =
    .ok (.playDiscP1High (discOfHighByte disc) (trackOfByte track)) := rfl

theorem decodePlayDisc_p2Low : decodePlayDisc [0x92, cmd, disc, track] =
    .ok (.playDiscP2Low (discOfLowByte disc) (trackOfByte track)) := rfl

theorem decodePlayDisc_p2High : decodePlayDisc [0x95, cmd, disc, track] =
    .ok (.playDiscP2High (discOfHighByte disc) (trackOfByte track)) := rfl

end PlayDiscRows

theorem decode_encode_playDisc {i : Instr} (hc : channelOf i = .playDisc) (h : i.wellFormed = true) :
    decodePlayDisc (encode i) = .ok i := by
  cases i with
  | playDiscP1Low disc track | playDiscP2Low disc track =>
    simp only [Instr.wellFormed, Bool.and_eq_true, decide_eq_true_eq] at h
    obtain ⟨⟨hlow, hhigh⟩, htrack⟩ := h
    simp only [encode, decodePlayDisc_p1Low, decodePlayDisc_p2Low, discOfLowByte_discByte hlow hhigh,
      trackOfByte_bcd htrack]
  | playDiscP1High disc track | playDiscP2High disc track =>
    simp only [Instr.wellFormed, Bool.and_eq_true, decide_eq_true_eq] at h
    obtain ⟨⟨hlow, hhigh⟩, htrack⟩ := h
    simp only [encode, decodePlayDisc_p1High, decodePlayDisc_p2High, discOfHighByte_discByte hlow hhigh,
      trackOfByte_bcd htrack]
  | _ => simp [channelOf] at hc

theorem decode_encode_rxFrame {i : Instr} (hc : channelOf i = .rxFrame) (h : i.wellFormed = true) :
    decodeRxFrame (encode i) = .ok i := by
  cases i with
  | frameTransport second code => exact decodeRxFrame_transport second code
  | frameTrackstatus device payload => exact decodeRxFrame_trackStatus device (beq_iff_eq.1 h)
  | frameTimestatus device payload => exact decodeRxFrame_timeStatus device (beq_iff_eq.1 h)
  | frameExtendedstatus device payload => exact decodeRxFrame_extendedStatus device (beq_iff_eq.1 h)
  | frameHeartbeat => rfl
  | frameUnknown frame => exact decodeRxFrame_unknown h
  | _ => simp [channelOf] at hc

theorem decodeEvent_sample (d : Duration) : decodeEvent (1 :: durationBytes d) = .ok (.sample d) :=
  congrArg (fun dur => Except.ok (Instr.sample dur)) (durationOf_durationBytes d)

theorem decodeOperation_classify (d : Duration) : decodeOperation (0 :: durationBytes d) = .ok (.classify d) :=
  congrArg (fun dur => Except.ok (Instr.classify dur)) (durationOf_durationBytes d)

/-- Settles O1: received pulses by the range of their symbol, frames by their shape, playDisc by its bytes read
backwards; the words of the other rows write their operands out. -/
theorem decodeEncode : Obligations.DecodeEncode := by
  intro i h
  cases i with
  | rxsymZero d => exact decode_encode_rxsymRow (sym := .zero) h
  | rxsymOne d => exact decode_encode_rxsymRow (sym := .one) h
  | rxsymSync d => exact decode_encode_rxsymRow (sym := .sync) h
  | rxsymNoise d => exact decode_encode_rxsymRow (sym := .noise) h
  | rxsymGap d => exact decode_encode_rxsymRow (sym := .gap) h
  | frameTransport _ _ | frameTrackstatus _ _ | frameTimestatus _ _ | frameExtendedstatus _ _ | frameHeartbeat
  | frameUnknown _ => exact decode_encode_rxFrame rfl h
  | txsymSync | txsymOne | txsymZero => rfl
  | cmd2 _ _ | cmd3 _ _ _ | cmd4 _ _ _ _ => rfl
  | sendCommand d c params => cases params <;> rfl
  | playDiscP1Low _ _ | playDiscP1High _ _ | playDiscP2Low _ _ | playDiscP2High _ _ =>
    exact decode_encode_playDisc rfl h
  | play | stop | pause | nextTrack | prevTrack | powerOn | powerOff => rfl
  | reset | frameEnd | tick => rfl
  | sample d => exact decodeEvent_sample d
  | start np b0 b1 b2 b3 => exact decodeStart_count np b0 b1 b2 b3
  | classify d => exact decodeOperation_classify d
  | dispatch frame => exact decodeDispatch_of_wellFormed h

/-- Settles O4: each word is decoded by evaluation. -/
theorem specWordsDecode : Obligations.SpecWordsDecode :=
  ⟨by decide, by decide, by decide, by decide, by decide, by decide, by decide, by decide⟩

/-! ## The calls a playDisc word makes -/

/-- A row whose disc or track is out of its range issues no START (R161). -/
theorem playDiscIn_eq_none {lo hi disc track : Nat} (player : Nat) (h : ¬ (lo ≤ disc ∧ disc ≤ hi ∧ track ≤ 99)) :
    playDiscIn lo hi player disc track = none := by
  unfold playDiscIn
  split
  · next hdisc =>
    obtain ⟨hlow, hhigh⟩ := hdisc
    rw [playDisc, if_neg fun ⟨_, _, htrack⟩ => h ⟨hlow, hhigh, htrack⟩]
  · rfl

/-- The two bytes are those of a disc between `lo` and `hi` and of a track (R73, R74). -/
def EncodesDisc (lo hi : Nat) (disc track : Byte) : Prop :=
  ∃ d t : Nat, disc = discByte d ∧ track = bcd t ∧ t ≤ 99 ∧ lo ≤ d ∧ d ≤ hi

section PlayDiscCalls

variable (disc track : Nat) (s : State)

theorem exec_playDiscP1Low :
    exec (.playDiscP1Low disc track) s = .next (callStart (playDiscIn 1 200 1 disc track) s) := rfl

theorem exec_playDiscP1High :
    exec (.playDiscP1High disc track) s = .next (callStart (playDiscIn 201 300 1 disc track) s) := rfl

theorem exec_playDiscP2Low :
    exec (.playDiscP2Low disc track) s = .next (callStart (playDiscIn 1 200 2 disc track) s) := rfl

theorem exec_playDiscP2High :
    exec (.playDiscP2High disc track) s = .next (callStart (playDiscIn 201 300 2 disc track) s) := rfl

end PlayDiscCalls

/-- What a playDisc row whose discs are `lo` to `hi` makes of its two bytes, `read` being its disc byte read backwards:
bytes that encode a disc in the range and a track give the row with these, others leave every state unchanged. -/
def RowReads (lo hi : Nat) (row : Nat → Nat → Instr) (read : Byte → Nat) (disc track : Byte) : Prop :=
  (∀ d t : Nat, disc = discByte d → track = bcd t → t ≤ 99 → lo ≤ d → d ≤ hi →
    row (read disc) (trackOfByte track) = row d t) ∧
  (¬ EncodesDisc lo hi disc track → ∀ s, exec (row (read disc) (trackOfByte track)) s = .next s)

section RowReads

variable {lo hi player : Nat} {row : Nat → Nat → Instr} {read : Byte → Nat}

theorem rowReads_of_inverse (hread : ∀ d, lo ≤ d → d ≤ hi → read (discByte d) = d)
    (hback : ∀ b, lo ≤ read b → discByte (read b) = b)
    (hexec : ∀ d t s, exec (row d t) s = .next (callStart (playDiscIn lo hi player d t) s)) (disc track : Byte) :
    RowReads lo hi row read disc track := by
  constructor
  · rintro d t rfl rfl htrack hlow hhigh
    rw [hread d hlow hhigh, trackOfByte_bcd htrack]
  · intro hno s
    have hnone : playDiscIn lo hi player (read disc) (trackOfByte track) = none :=
      playDiscIn_eq_none player fun ⟨hlow, hhigh, htrack⟩ =>
        hno ⟨_, _, (hback disc hlow).symm, (bcd_trackOfByte htrack).symm, htrack, hlow, hhigh⟩
    rw [hexec, hnone, callStart]

theorem rowReads_low (hexec : ∀ d t s, exec (row d t) s = .next (callStart (playDiscIn 1 200 player d t) s))
    (disc track : Byte) : RowReads 1 200 row discOfLowByte disc track :=
  rowReads_of_inverse (fun _ => discOfLowByte_discByte) (fun _ => discByte_discOfLowByte) hexec disc track

theorem rowReads_high (hexec : ∀ d t s, exec (row d t) s = .next (callStart (playDiscIn 201 300 player d t) s))
    (disc track : Byte) : RowReads 201 300 row discOfHighByte disc track :=
  rowReads_of_inverse (fun _ => discOfHighByte_discByte) (fun _ => discByte_discOfHighByte) hexec disc track

end RowReads

/-- Settles O3: the device code selects the row, and the row reads the two bytes backwards. -/
theorem playDiscWords : Obligations.PlayDiscWords := by
  intro dev cmd disc track hdev
  rcases hdev with rfl | rfl | rfl | rfl
  · obtain ⟨hrow, haway⟩ := rowReads_low exec_playDiscP1Low disc track
    exact ⟨_, decodePlayDisc_p1Low cmd disc track, by simpa using hrow, by simpa [EncodesDisc] using haway⟩
  · obtain ⟨hrow, haway⟩ := rowReads_high exec_playDiscP1High disc track
    exact ⟨_, decodePlayDisc_p1High cmd disc track, by simpa using hrow, by simpa [EncodesDisc] using haway⟩
  · obtain ⟨hrow, haway⟩ := rowReads_low exec_playDiscP2Low disc track
    exact ⟨_, decodePlayDisc_p2Low cmd disc track, by simpa using hrow, by simpa [EncodesDisc] using haway⟩
  · obtain ⟨hrow, haway⟩ := rowReads_high exec_playDiscP2High disc track
    exact ⟨_, decodePlayDisc_p2High cmd disc track, by simpa using hrow, by simpa [EncodesDisc] using haway⟩

/-! ## Received frames as events -/

/-- SAMPLE of each duration of a list, before other instructions, presents the list one a cycle. -/
theorem runAll_map_sample_append (ds : List Duration) (is : List Instr) (s : State) :
    runAll (ds.map Instr.sample ++ is) s = runAll is (runSamples ds s) := by
  induction ds generalizing s with
  | nil => rfl
  | cons d ds ih => exact ih (receiveSymbol (classify d) s)

theorem exec_rxFrame_eq_receiveFrame {i : Instr} (h : channelOf i = .rxFrame) (s : State) :
    exec i s = .next (receiveFrame (encode i) s) := by
  cases i with
  | frameTransport _ _ | frameTrackstatus _ _ | frameTimestatus _ _ | frameExtendedstatus _ _ | frameHeartbeat
  | frameUnknown _ => rfl
  | _ => simp [channelOf] at h

theorem ofNat_bitActive (v : Bool) : BitVec.ofNat durW (bitActive v) = if v then 1200 else 600 := by
  cases v <;> rfl

theorem framePulses_eq (bytes : List Byte) :
    framePulses bytes = 2400 :: bytes.flatMap fun b => (List.range 8).map fun k =>
      if b.getLsbD (7 - k) then 1200 else 600 := by
  simp only [framePulses, ofNat_bitActive]
  rfl

/-- Settles O26: a FRAME row is the reception of its word, and that is its pulses followed by the end. -/
theorem frameRowIsItsPulses : Obligations.FrameRowIsItsPulses := by
  intro i s hc
  have hrun := runAll_map_sample_append (framePulses (encode i)) [.frameEnd] s
  rw [framePulses_eq] at hrun
  rw [exec_rxFrame_eq_receiveFrame hc, receiveFrame, framePulses_eq]
  simpa [List.map_flatMap, Function.comp_def, runAll, exec_frameEnd] using hrun.symm

/-! ## Sent symbols as TICKs -/

theorem runAll_replicate_tick (n : Nat) (s : State) : runAll (List.replicate n .tick) s = .next (runTicks n s) := by
  induction n generalizing s with
  | zero => rfl
  | succ n ih => exact ih (tickCycle s)

theorem runTicks_add (m n : Nat) (s : State) : runTicks (m + n) s = runTicks n (runTicks m s) := by
  induction m generalizing s with
  | zero => rw [Nat.zero_add]; rfl
  | succ m ih => rw [Nat.succ_add]; exact ih (tickCycle s)

/-- A TICK lowers the strobes anyway, so it may start from the quiet state. -/
theorem tickCycle_quiet (s : State) : tickCycle (quiet s) = tickCycle s := rfl

theorem quiet_setTx_quiet (s : State) (t : Tx) : quiet ((quiet s).setTx t) = (quiet s).setTx t := rfl

theorem tickCycle_leave {s : State} {t : Tx} (hbusy : t.phase ≠ .idle) (hsettle : t.phase ≠ .settle)
    (htimer : t.timer.toNat = 1) : tickCycle ((quiet s).setTx t) = (quiet s).setTx (leavePhase t) := by
  rcases tickCycle_cases ((quiet s).setTx t) with ⟨hidle, _⟩ | ⟨_, hmore, _⟩ | ⟨_, _, heq⟩
  · exact absurd hidle hbusy
  · simp only [State.setTx_tx] at hmore
    omega
  · have hdone : (t.phase == .settle) = false := by simpa using hsettle
    rw [heq]
    simp only [State.setTx_tx, hdone]
    rfl

/-- TICKs below the timer count it down (R138). -/
theorem runTicks_countdown {s : State} {t : Tx} (n : Nat) (hbusy : t.phase ≠ .idle) (h : n < t.timer.toNat) :
    runTicks n ((quiet s).setTx t) = (quiet s).setTx { t with timer := t.timer - BitVec.ofNat 13 n } := by
  induction n generalizing t with
  | zero => simp [runTicks]
  | succ n ih =>
    have hmore : 1 < ((quiet s).setTx t).tx.timer.toNat := by simp only [State.setTx_tx]; omega
    have hpred : (t.timer - 1).toNat = t.timer.toNat - 1 := by bv_omega
    have hsub : t.timer - 1 - BitVec.ofNat 13 n = t.timer - BitVec.ofNat 13 (n + 1) := by bv_omega
    rw [runTicks, tickCycle_of_running (s := (quiet s).setTx t) hbusy hmore]
    have := ih (t := { t with timer := t.timer - 1 }) hbusy (by simp only [hpred]; omega)
    rw [← hsub]
    exact this

theorem leavePhase_timer {t : Tx} (v : BitVec 13) (h : t.phase ≠ .idle) :
    leavePhase { t with timer := v } = leavePhase t := by
  cases hp : t.phase with
  | idle => exact absurd hp h
  | bitI => simp [leavePhase, hp, nextPosition, enterBit, txBitAt]
  | _ => simp [leavePhase, hp, txBitAt]

/-- As many TICKs as the timer shows run a phase to its end and leave it. -/
theorem runTicks_phase {s : State} {t : Tx} {n : Nat} (hbusy : t.phase ≠ .idle) (hsettle : t.phase ≠ .settle)
    (htimer : t.timer.toNat = n) (hpos : 0 < n) :
    runTicks n ((quiet s).setTx t) = (quiet s).setTx (leavePhase t) := by
  obtain ⟨n, rfl⟩ := Nat.exists_eq_succ_of_ne_zero hpos.ne'
  have hlast : (t.timer - BitVec.ofNat 13 n).toNat = 1 := by bv_omega
  rw [Nat.succ_eq_add_one, runTicks_add, runTicks_countdown n hbusy (by omega)]
  exact (tickCycle_leave (t := { t with timer := t.timer - BitVec.ofNat 13 n }) hbusy hsettle hlast).trans
    (by rw [leavePhase_timer _ hbusy])

/-- The active time of a symbol (R61). -/
def symbolActive : TxSymbol → Nat
  | .sync => Config.tSyncA
  | .bit v => bitActive v

/-- The first bit is entered without a look at the indices, which stand at it since START (R141). -/
theorem leavePhase_firstBit {t : Tx} (hp : t.phase = .syncI) :
    leavePhase t = { t with phase := .bitA, timer := BitVec.ofNat 13 (bitActive (txBitAt t 0 7)) } := by
  simp [leavePhase, hp]

/-- The symbol that is due enters its active phase, for its active time (R139, R141, R143). -/
theorem leavePhase_of_due {t : Tx} {sym : TxSymbol} (hdue : dueSymbol t = some sym) :
    ((leavePhase t).phase = .syncA ∨ (leavePhase t).phase = .bitA) ∧
      (leavePhase t).timer.toNat = symbolActive sym := by
  obtain ⟨-, ⟨hp, rfl⟩ | ⟨hp, rfl⟩ | ⟨hp, p, hnext, rfl⟩⟩ := dueSymbol_some t sym hdue
  · rw [leavePhase_pre hp]
    exact ⟨.inl rfl, rfl⟩
  · rw [leavePhase_firstBit hp]
    exact ⟨.inr rfl, bitActive_timer _⟩
  · rw [leavePhase_bitI_next hp hnext]
    exact ⟨.inr rfl, bitActive_timer _⟩

/-- An active phase is followed by its delimiter (R140, R142). -/
theorem leavePhase_of_active {t : Tx} (h : t.phase = .syncA ∨ t.phase = .bitA) :
    ((leavePhase t).phase = .syncI ∨ (leavePhase t).phase = .bitI) ∧ (leavePhase t).timer = 600 := by
  rcases h with hp | hp
  · rw [leavePhase_syncA hp]
    exact ⟨.inl rfl, rfl⟩
  · rw [leavePhase_bitA hp]
    exact ⟨.inr rfl, rfl⟩

theorem symbolActive_pos (sym : TxSymbol) : 0 < symbolActive sym := by
  rcases sym with _ | _ | _ <;> decide

theorem ne_idle_settle_of_active {p : TxPhase} (h : p = .syncA ∨ p = .bitA) : p ≠ .idle ∧ p ≠ .settle := by
  rcases h with rfl | rfl <;> simp

theorem ne_idle_of_delimiter {p : TxPhase} (h : p = .syncI ∨ p = .bitI) : p ≠ .idle := by
  rcases h with rfl | rfl <;> simp

theorem busy_of_due {t : Tx} {sym : TxSymbol} (hdue : dueSymbol t = some sym) :
    t.phase ≠ .idle ∧ t.phase ≠ .settle := by
  obtain ⟨-, ⟨hp, -⟩ | ⟨hp, -⟩ | ⟨hp, -⟩⟩ := dueSymbol_some t sym hdue <;> simp [hp]

/-- A due symbol takes one TICK to enter, its active time, and all but the last microsecond of its delimiter. -/
theorem runTicks_due {s : State} {sym : TxSymbol} (hdue : dueSymbol s.tx = some sym) :
    runTicks (1 + symbolActive sym + 599) s = (quiet s).setTx (symbolSent s.tx) := by
  obtain ⟨htimer, -⟩ := dueSymbol_some _ _ hdue
  obtain ⟨hbusy, hsettle⟩ := busy_of_due hdue
  obtain ⟨hactive, htime⟩ := leavePhase_of_due hdue
  obtain ⟨hbusyA, hsettleA⟩ := ne_idle_settle_of_active hactive
  obtain ⟨hdelimiter, hidle⟩ := leavePhase_of_active hactive
  have henter : runTicks 1 s = (quiet s).setTx (leavePhase s.tx) := tickCycle_leave (s := s) hbusy hsettle htimer
  rw [runTicks_add, runTicks_add, henter, runTicks_phase hbusyA hsettleA htime (symbolActive_pos sym),
    runTicks_countdown 599 (ne_idle_of_delimiter hdelimiter) (by simp [hidle]), hidle]
  rfl

theorem sendSymbol_of_due {s : State} {sym : TxSymbol} (hdue : dueSymbol s.tx = some sym) :
    sendSymbol sym s = (quiet s).setTx (symbolSent s.tx) := by
  rw [sendSymbol, if_pos hdue]

/-- The sent-symbol row of a symbol. -/
def txsymRow : TxSymbol → Instr
  | .sync => .txsymSync
  | .bit true => .txsymOne
  | .bit false => .txsymZero

theorem exec_txsymRow (sym : TxSymbol) (s : State) : exec (txsymRow sym) s = .next (sendSymbol sym s) := by
  rcases sym with _ | _ | _ <;> rfl

/-- The row of the symbol that is due leaves `t` in the TX registers, and so do the TICKs of the whole symbol. -/
theorem txsymRow_is_ticks {s : State} {sym : TxSymbol} {t : Tx} (hdue : dueSymbol s.tx = some sym)
    (hsent : symbolSent s.tx = t) :
    exec (txsymRow sym) s = .next { quiet s with tx := t } ∧
      runAll (List.replicate (1 + symbolActive sym + 599) .tick) s = exec (txsymRow sym) s := by
  rw [exec_txsymRow, sendSymbol_of_due hdue, runAll_replicate_tick, runTicks_due hdue, hsent]
  exact ⟨rfl, rfl⟩

theorem symbolSent_of_pre {t : Tx} (hp : t.phase = .pre) : symbolSent t = { t with phase := .syncI, timer := 1 } := by
  rw [symbolSent, leavePhase_pre hp, leavePhase_syncA rfl]

section Due

variable {t : Tx} (htimer : t.timer = 1)
include htimer

theorem dueSymbol_of_pre (hp : t.phase = .pre) : dueSymbol t = some .sync := by
  simp [dueSymbol, htimer, hp]

theorem dueSymbol_of_syncI (hp : t.phase = .syncI) : dueSymbol t = some (.bit (txBitAt t 0 7)) := by
  simp [dueSymbol, htimer, hp]

theorem dueSymbol_of_bitI (hp : t.phase = .bitI) {p : BitVec 2 × BitVec 3} (hnext : nextPosition t = some p) :
    dueSymbol t = some (.bit (txBitAt t p.1 p.2)) := by
  simp [dueSymbol, htimer, hp, hnext]

theorem symbolSent_of_syncI (hp : t.phase = .syncI) : symbolSent t = { t with phase := .bitI } := by
  rw [symbolSent, leavePhase_firstBit hp, leavePhase_bitA rfl, ← htimer]

theorem symbolSent_of_bitI (hp : t.phase = .bitI) {p : BitVec 2 × BitVec 3} (hnext : nextPosition t = some p) :
    symbolSent t = { t with phase := .bitI, byte := p.1, bit := p.2 } := by
  rw [symbolSent, leavePhase_bitI_next hp hnext, leavePhase_bitA rfl]
  simp [enterBit, htimer]

end Due

/-- Settles O45: the sync symbol is due in the last microsecond of PRE. -/
theorem txsymSyncIsTicks : Obligations.TxsymSyncIsTicks :=
  fun _ hp htimer => txsymRow_is_ticks (sym := .sync) (dueSymbol_of_pre htimer hp) (symbolSent_of_pre hp)

theorem nextPosition_of_cases {t : Tx} {byte : BitVec 2} {bit : BitVec 3}
    (h : (0 < t.bit.toNat ∧ byte = t.byte ∧ bit = t.bit - 1) ∨
      (t.bit = 0 ∧ t.byte.toNat + 1 < t.len.toNat ∧ byte = t.byte + 1 ∧ bit = 7)) :
    nextPosition t = some (byte, bit) := by
  rcases h with ⟨hpos, rfl, rfl⟩ | ⟨hzero, hnext, rfl, rfl⟩
  · rw [nextPosition, if_pos hpos]
  · rw [nextPosition, if_neg (by simp [hzero]), if_pos hnext]

/-- Settles O46: the bit that is due is the first one after the sync delimiter, the next one after a bit delimiter. -/
theorem txsymBitIsTicks : Obligations.TxsymBitIsTicks := by
  intro s htimer
  refine ⟨fun hp hbit => ?_, fun hp hbit => ?_, fun byte bit hp hpos => ?_⟩
  · have hdue : dueSymbol s.tx = some (.bit true) := hbit ▸ dueSymbol_of_syncI htimer hp
    exact txsymRow_is_ticks hdue (symbolSent_of_syncI htimer hp)
  · have hdue : dueSymbol s.tx = some (.bit false) := hbit ▸ dueSymbol_of_syncI htimer hp
    exact txsymRow_is_ticks hdue (symbolSent_of_syncI htimer hp)
  · have hnext := nextPosition_of_cases hpos
    refine ⟨fun hbit => ?_, fun hbit => ?_⟩
    · have hdue : dueSymbol s.tx = some (.bit true) := hbit ▸ dueSymbol_of_bitI htimer hp hnext
      exact txsymRow_is_ticks hdue (symbolSent_of_bitI htimer hp hnext)
    · have hdue : dueSymbol s.tx = some (.bit false) := hbit ▸ dueSymbol_of_bitI htimer hp hnext
      exact txsymRow_is_ticks hdue (symbolSent_of_bitI htimer hp hnext)

/-! ## Commands as STARTs -/

/-- A legal START in an idle block starts its command (R137). -/
theorem startCycle_accepted {s : State} {o : StartOperands} (hidle : s.tx.phase = .idle) (hnp : o.np ≠ 3) :
    startCycle o s = { quiet s with tx := startedTx (2 + o.np.setWidth 3) o.b0 o.b1 o.b2 o.b3 } := by
  rw [startCycle_of_idle o hidle, if_pos (legalCount_iff.2 hnp), startTx_eq_startedTx]
  rfl

/-- Settles O34: each row is the START of its bytes with a count of 0, 1 or 2. -/
theorem commandRowsStart : Obligations.CommandRowsStart := by
  intro s d c p q hidle
  have hstart (np : BitVec 2) (x y : Byte) (hnp : np ≠ 3) := startCycle_accepted (o := ⟨np, d, c, x, y⟩) hidle hnp
  exact ⟨congrArg _ (hstart 0 0 0 (by decide)), congrArg _ (hstart 1 p 0 (by decide)),
    congrArg _ (hstart 2 p q (by decide)), congrArg _ (hstart 0 0 0 (by decide)),
    congrArg _ (hstart 1 p 0 (by decide)), congrArg _ (hstart 2 p q (by decide))⟩

end Sys2Proof.Proofs.Encoding
end

section
/-! The classifier (40_classifier.md): CLASSIFY gives the symbol of its duration, and the received-pulse rows give that
symbol's effect on the RX registers below the cap (41_assembler.md). -/

namespace Sys2Proof.Proofs.Classifier

open Sys2Proof.Machine Sys2Proof.Proofs.RegisterState Sys2Proof.Proofs.Encoding

/-! ## CLASSIFY -/

theorem exec_classify_of_eq {d : Duration} {sym : Symbol} (s : State) (h : classify d = sym) :
    exec (.classify d) s = .next { s with opResult := .symbol sym } := by
  subst h
  rfl

/-- Settles O10: the symbol in the result field is the one whose range holds the duration. -/
theorem classifyCompletes : Obligations.ClassifyCompletes := by
  intro d s
  obtain ⟨hzero, hone, hsync, hnoise, hgap⟩ := classify_iff d
  exact ⟨fun hmax => exec_classify_of_eq s (hzero.2 hmax),
    fun hmin hmax => exec_classify_of_eq s (hone.2 ⟨hmin, hmax⟩),
    fun hmin hmax => exec_classify_of_eq s (hsync.2 ⟨hmin, hmax⟩),
    fun hmin hmax => exec_classify_of_eq s (hnoise.2 ⟨hmin, hmax⟩),
    fun hmin => exec_classify_of_eq s (hgap.2 hmin)⟩

/-! ## The bit that enters the shift register -/

/-- The concatenation of R104, as the shift it performs. -/
theorem shiftIn_eq_shiftLeft_or (sr : Byte) (b : Bool) :
    shiftIn sr b = sr <<< 1 ||| (BitVec.ofBool b).setWidth 8 := by
  apply BitVec.eq_of_getLsbD_eq
  intro i hi
  rw [shiftIn, BitVec.getLsbD_append]
  cases i with
  | zero => simp
  | succ i => simp [← Nat.lt_sub_iff_add_lt]

theorem shiftIn_false (sr : Byte) : shiftIn sr false = sr <<< 1 :=
  (shiftIn_eq_shiftLeft_or sr false).trans BitVec.or_zero

theorem shiftIn_true (sr : Byte) : shiftIn sr true = sr <<< 1 ||| 1 :=
  shiftIn_eq_shiftLeft_or sr true

/-! ## An accepted symbol in each state -/

section AcceptSymbol

variable {r : Rx} {sym : Symbol}

theorem acceptSymbol_sync_of_hunt (h : r.state = .hunt) : acceptSymbol .sync r = { r with state := .pack } := by
  simp [acceptSymbol, h]

theorem acceptSymbol_of_hunt (hsym : sym ≠ .sync) (h : r.state = .hunt) : acceptSymbol sym r = r := by
  simp [acceptSymbol, h, hsym]

theorem acceptSymbol_bit_of_pack {b : Bool} (hbit : symbolBit sym = some b) (h : r.state = .pack)
    (hroom : r.nbits.toNat < 7) :
    acceptSymbol sym r = { r with sr := shiftIn r.sr b, nbits := r.nbits + 1 } := by
  simp [acceptSymbol, packBit, h, hbit, hroom]

theorem acceptSymbol_nonBit_of_pack (hbit : symbolBit sym = none) (h : r.state = .pack) :
    acceptSymbol sym r = { r with state := .stop } := by
  simp [acceptSymbol, h, hbit]

end AcceptSymbol

/-! ## A received pulse below the cap -/

section BelowCap

variable {s : State} {r : Rx} {sym : Symbol}

/-- Below the cap a pulse is counted, then accepted (R102). -/
theorem takeSymbol_of_below (h : r.count ≠ 128) :
    takeSymbol sym r = acceptSymbol sym { r with count := r.count + 1 } := by
  rcases takeSymbol_cases sym r with ⟨hcap, _⟩ | ⟨_, heq⟩
  · exact absurd (BitVec.eq_of_toNat_eq hcap) h
  · exact heq

theorem receiveSymbol_of_accept (hidle : s.tx.phase = .idle) (hbelow : s.rx.count ≠ 128)
    (haccept : acceptSymbol sym { s.rx with count := s.rx.count + 1 } = r) :
    receiveSymbol sym s = { quiet s with rx := r } := by
  rw [receiveSymbol_of_idle sym hidle, sampleCore, quiet_rx, takeSymbol_of_below hbelow, haccept]
  rfl

theorem exec_rxsymRow_of_accept (d : Duration) (hidle : s.tx.phase = .idle) (hbelow : s.rx.count ≠ 128)
    (haccept : acceptSymbol sym { s.rx with count := s.rx.count + 1 } = r) :
    exec (rxsymRow sym d) s = .next { quiet s with rx := r } := by
  rw [exec_rxsymRow, receiveSymbol_of_accept hidle hbelow haccept]

end BelowCap

/-- Settles O19: each row is its symbol accepted in HUNT or in PACK. -/
theorem rxsymEffects : Obligations.RxsymEffects := by
  intro d s hidle hbelow
  have hrow (sym : Symbol) {r : Rx} (haccept : acceptSymbol sym { s.rx with count := s.rx.count + 1 } = r) :=
    exec_rxsymRow_of_accept d hidle hbelow haccept
  refine ⟨fun hhunt => ?hunt, fun hpack hroom => ?bit, fun hpack => ?nonBit⟩
  case hunt =>
    have hother (sym : Symbol) (hsym : sym ≠ .sync) := hrow sym (acceptSymbol_of_hunt hsym hhunt)
    exact ⟨hrow .sync (acceptSymbol_sync_of_hunt hhunt), hother .zero (by decide), hother .one (by decide),
      hother .noise (by decide), hother .gap (by decide)⟩
  case bit =>
    have hbit (sym : Symbol) {b : Bool} (hsym : symbolBit sym = some b) :=
      hrow sym (acceptSymbol_bit_of_pack hsym hpack hroom)
    rw [← shiftIn_true, ← shiftIn_false]
    exact ⟨hbit .zero rfl, hbit .one rfl⟩
  case nonBit =>
    have hstop (sym : Symbol) (hsym : symbolBit sym = none) := hrow sym (acceptSymbol_nonBit_of_pack hsym hpack)
    exact ⟨hstop .sync rfl, hstop .noise rfl, hstop .gap rfl⟩

end Sys2Proof.Proofs.Classifier
end

section
/-! The frame assembler (41_assembler.md): what SAMPLE and FRAME_END do to the registers, and that the events of a pulse
sequence assemble what `rxFrame` says of its durations, the pulses of a command's own waveform among them. -/

namespace Sys2Proof.Proofs.Assembler

open Sys2Proof.Machine Sys2Proof.Safety Sys2Proof.Proofs.RegisterState Sys2Proof.Proofs.Encoding
  Sys2Proof.Proofs.Classifier

/-! ## One sample -/

section Sample

variable {s : State} {r : Rx} {d : Duration}

theorem takeSymbol_at_cap (sym : Symbol) (h : r.count = 128) : takeSymbol sym r = { r with ovf := true } := by
  simp [takeSymbol, h, Config.pulseCap]

/-- Below the cap SAMPLE is the symbol of its duration, counted and accepted (R100, R102). -/
theorem exec_sample_of_accept (hidle : s.tx.phase = .idle) (hbelow : s.rx.count ≠ 128)
    (haccept : acceptSymbol (classify d) { s.rx with count := s.rx.count + 1 } = r) :
    exec (.sample d) s = .next { quiet s with rx := r } := by
  rw [exec_sample, receiveSymbol_of_accept hidle hbelow haccept]

theorem acceptSymbol_of_stop (sym : Symbol) (h : r.state = .stop) : acceptSymbol sym r = r := by
  simp [acceptSymbol, h]

theorem acceptSymbol_eighth_of_pack {sym : Symbol} {b : Bool} (hbit : symbolBit sym = some b) (h : r.state = .pack)
    (hfull : r.nbits = 7) : acceptSymbol sym r = completeByte (shiftIn r.sr b) r := by
  simp [acceptSymbol, packBit, h, hbit, hfull]

/-- A duration below `TH_SYNC` is a bit, a One from `TH_ONE` on (R93, R94). -/
theorem symbolBit_classify_of_le (h : d.toNat ≤ 1999) : symbolBit (classify d) = some (decide (900 ≤ d.toNat)) := by
  rcases classify_cases d with ⟨hmax, heq⟩ | ⟨hmin, _, heq⟩ | ⟨hmin, _⟩ | ⟨hmin, _⟩ | ⟨hmin, _⟩
  · rw [heq, decide_eq_false (by omega)]
    rfl
  · rw [heq, decide_eq_true hmin]
    rfl
  all_goals omega

theorem symbolBit_classify_of_ge (h : 2000 ≤ d.toNat) : symbolBit (classify d) = none := by
  rcases classify_cases d with ⟨hmax, _⟩ | ⟨_, hmax, _⟩ | ⟨_, _, heq⟩ | ⟨_, _, heq⟩ | ⟨_, heq⟩
  · omega
  · omega
  all_goals rw [heq]; rfl

theorem shiftIn_decide (sr : Byte) (p : Prop) [Decidable p] :
    shiftIn sr (decide p) = sr <<< 1 ||| (if p then 1 else 0) := by
  by_cases h : p
  · simp [h, shiftIn_true]
  · simp [h, shiftIn_false]

end Sample

/-- Settles O13: at the cap the sample only marks the sequence. -/
theorem sampleAtCap : Obligations.SampleAtCap := by
  intro d s hidle hcap
  rw [exec_sample, receiveSymbol_of_idle _ hidle, sampleCore, quiet_rx, takeSymbol_at_cap _ hcap]
  rfl

/-- Settles O14: in HUNT only the range of the Sync matters. -/
theorem sampleInHunt : Obligations.SampleInHunt := by
  intro d s hidle hbelow hhunt
  obtain ⟨-, -, hsync, -⟩ := classify_iff d
  by_cases hd : classify d = .sync
  · rw [if_pos (hsync.1 hd)]
    exact exec_sample_of_accept hidle hbelow (hd ▸ acceptSymbol_sync_of_hunt hhunt)
  · rw [if_neg (mt hsync.2 hd), ← hhunt]
    exact exec_sample_of_accept hidle hbelow (acceptSymbol_of_hunt hd hhunt)

/-- Settles O15: the duration is a bit, and the byte has room for it. -/
theorem sampleBitInPack : Obligations.SampleBitInPack := by
  intro d s hidle hbelow hpack hroom hmax
  rw [← shiftIn_decide]
  exact exec_sample_of_accept hidle hbelow (acceptSymbol_bit_of_pack (symbolBit_classify_of_le hmax) hpack hroom)

/-- Settles O16: the duration is a bit, and the byte is complete with it. -/
theorem sampleEighthBit : Obligations.SampleEighthBit := by
  intro d s hidle hbelow hpack hfull hlen hmax
  refine ⟨_, exec_sample_of_accept hidle hbelow
    (acceptSymbol_eighth_of_pack (symbolBit_classify_of_le hmax) hpack hfull), ?_, fun k hk => ?_⟩
  · have hlast : (s.rx.len + 1).toNat = 16 ↔ s.rx.len.toNat = 15 := by bv_omega
    simp only [completeByte, Config.frameMax, hlast, hpack]
  · simp only [completeByte, shiftIn_decide, Vector.getElem_setIfInBounds, eq_comm]

/-- Settles O17: the duration is no bit. -/
theorem sampleNonBitInPack : Obligations.SampleNonBitInPack := by
  intro d s hidle hbelow hpack hmin
  exact exec_sample_of_accept hidle hbelow (acceptSymbol_nonBit_of_pack (symbolBit_classify_of_ge hmin) hpack)

/-- Settles O18: after the stop an accepted symbol changes nothing more than the count. -/
theorem sampleInStop : Obligations.SampleInStop := by
  intro d s hidle hbelow hstop
  exact exec_sample_of_accept hidle hbelow (acceptSymbol_of_stop (classify d) hstop)

/-! ## The verdict on a sequence, one lemma per check of R110 -/

section Verdict

variable {r : Rx}

theorem frameVerdict_overflow (hovf : r.ovf = true) : frameVerdict r = .overflow := by
  simp [frameVerdict, hovf]

theorem frameVerdict_tooShort (hovf : r.ovf = false) (hcount : r.count.toNat < 3) : frameVerdict r = .tooShort := by
  simp [frameVerdict, hovf, hcount, Config.minPulses]

theorem frameVerdict_noSync (hovf : r.ovf = false) (hcount : 3 ≤ r.count.toNat) (hhunt : r.state = .hunt) :
    frameVerdict r = .noSync := by
  simp [frameVerdict, hovf, hcount, hhunt, Config.minPulses]

theorem frameVerdict_empty (hovf : r.ovf = false) (hcount : 3 ≤ r.count.toNat) (hsync : r.state ≠ .hunt)
    (hlen : r.len = 0) : frameVerdict r = .empty := by
  simp [frameVerdict, hovf, hcount, hsync, hlen, Config.minPulses]

theorem frameVerdict_badLead (hovf : r.ovf = false) (hcount : 3 ≤ r.count.toNat) (hsync : r.state ≠ .hunt)
    (hlen : r.len ≠ 0) (hlead : r.buf[0] ≠ Config.lead) : frameVerdict r = .badLead := by
  have hpos : r.len.toNat ≠ 0 := fun h0 => hlen (BitVec.eq_of_toNat_eq h0)
  simp [frameVerdict, hovf, hcount, hsync, hpos, hlead, Config.minPulses]

end Verdict

/-! ## The end of a sequence -/

section FrameEnd

variable {s : State}

theorem endFrame_of_verdict_none (h : frameVerdict s.rx = .none) : endFrame s = deliverFrame s := by
  simp [endFrame, h]

theorem endFrame_of_verdict {reason : DropReason} (h : frameVerdict s.rx = reason) (hreason : reason ≠ .none) :
    endFrame s = dropFrame reason s := by
  rcases endFrame_cases s with ⟨hnone, _⟩ | ⟨_, heq⟩
  · exact absurd (h.symm.trans hnone) hreason
  · rw [heq, h]

theorem drops_of_verdict {reason : DropReason} (hidle : s.tx.phase = .idle) (h : frameVerdict s.rx = reason)
    (hreason : reason ≠ .none) : Drops .frameEnd s reason := by
  rw [Drops, exec_frameEnd, frameEndCycle_of_idle hidle, endFrame_of_verdict (s := quiet s) h hreason]
  rfl

end FrameEnd

/-- Settles O21: each clause is one check of the verdict. -/
theorem frameEndDrops : Obligations.FrameEndDrops := by
  intro s hidle
  exact ⟨fun hovf => drops_of_verdict hidle (frameVerdict_overflow hovf) nofun,
    fun hovf hcount => drops_of_verdict hidle (frameVerdict_tooShort hovf hcount) nofun,
    fun hovf hcount hhunt => drops_of_verdict hidle (frameVerdict_noSync hovf hcount hhunt) nofun,
    fun hovf hcount hsync hlen => drops_of_verdict hidle (frameVerdict_empty hovf hcount hsync hlen) nofun,
    fun hovf hcount hsync hlen hlead =>
      drops_of_verdict hidle (frameVerdict_badLead hovf hcount hsync hlen hlead) nofun⟩

/-- Settles O22: with every check passed the frame is delivered. -/
theorem frameEndDelivers : Obligations.FrameEndDelivers := by
  intro s hidle hovf hcount hsync hmin _ hlead
  have hverdict : frameVerdict (quiet s).rx = .none :=
    (frameVerdict_none_iff s.rx).2 ⟨hovf, hcount, hsync, Nat.ne_of_gt hmin, hlead⟩
  refine ⟨deliverFrame (quiet s), ?_, rfl, rfl, fun k hk hheld => ?_, rfl, rfl, rfl, rfl, rfl, rfl, rfl, rfl⟩
  · rw [exec_frameEnd, frameEndCycle_of_idle hidle, endFrame_of_verdict_none hverdict]
  · simp [deliverFrame, deliveredBytes, hheld]

/-! ## A list of symbols taken one after the other -/

/-- The RX registers after a list of pulses is presented to an idle block. -/
def takeSymbols (syms : List Symbol) (r : Rx) : Rx :=
  syms.foldl (fun r sym => takeSymbol sym r) r

/-- The RX registers after a list of symbols is accepted, the count apart. -/
def acceptSymbols (syms : List Symbol) (r : Rx) : Rx :=
  syms.foldl (fun r sym => acceptSymbol sym r) r

section Fold

variable (sym : Symbol) (syms : List Symbol) (r : Rx)

@[simp] theorem takeSymbols_nil : takeSymbols [] r = r := rfl

@[simp] theorem takeSymbols_cons : takeSymbols (sym :: syms) r = takeSymbols syms (takeSymbol sym r) := rfl

@[simp] theorem acceptSymbols_nil : acceptSymbols [] r = r := rfl

@[simp] theorem acceptSymbols_cons : acceptSymbols (sym :: syms) r = acceptSymbols syms (acceptSymbol sym r) := rfl

end Fold

/-- Samples presented to an idle block reach the RX registers alone, the strobes apart. -/
theorem quiet_runSamples_of_idle {s : State} (ds : List Duration) (hidle : s.tx.phase = .idle) :
    quiet (runSamples ds s) = (quiet s).setRx (takeSymbols (ds.map classify) s.rx) := by
  induction ds generalizing s with
  | nil => rfl
  | cons d ds ih =>
    have hidle' : (receiveSymbol (classify d) s).tx.phase = .idle := by rwa [receiveSymbol_tx]
    rw [runSamples_cons, ih hidle', receiveSymbol_of_idle _ hidle]
    rfl

/-- The end of a sequence presented to an idle block is the verdict on the pulses taken. -/
theorem frameEndCycle_runSamples_of_idle {s : State} (ds : List Duration) (hidle : s.tx.phase = .idle) :
    frameEndCycle (runSamples ds s) = endFrame ((quiet s).setRx (takeSymbols (ds.map classify) s.rx)) := by
  have hidle' : (runSamples ds s).tx.phase = .idle := by rwa [runSamples_tx]
  rw [frameEndCycle_of_idle hidle', quiet_runSamples_of_idle ds hidle]

theorem takeSymbols_keeps_rxInv {r : Rx} (syms : List Symbol) (h : RxInv r) : RxInv (takeSymbols syms r) := by
  induction syms generalizing r with
  | nil => exact h
  | cons sym syms ih => exact ih (takeSymbol_keeps_rxInv sym h)

/-! ### The count and the cap -/

theorem packBit_setCount (b : Bool) (r : Rx) (c : BitVec 8) :
    packBit b { r with count := c } = { packBit b r with count := c } := by
  unfold packBit
  split <;> rfl

/-- No state of the assembler looks at the count. -/
theorem acceptSymbol_setCount (sym : Symbol) (r : Rx) (c : BitVec 8) :
    acceptSymbol sym { r with count := c } = { acceptSymbol sym r with count := c } := by
  cases hstate : r.state with
  | hunt => by_cases hsync : sym = .sync <;> simp [acceptSymbol, hstate, hsync]
  | pack => cases hbit : symbolBit sym <;> simp [acceptSymbol, hstate, hbit, ← packBit_setCount]
  | stop => simp [acceptSymbol, hstate]

theorem acceptSymbols_setCount (syms : List Symbol) (r : Rx) (c : BitVec 8) :
    acceptSymbols syms { r with count := c } = { acceptSymbols syms r with count := c } := by
  induction syms generalizing r with
  | nil => rfl
  | cons sym syms ih => rw [acceptSymbols_cons, acceptSymbol_setCount, ih, acceptSymbols_cons]

theorem acceptSymbol_ovf (sym : Symbol) (r : Rx) : (acceptSymbol sym r).ovf = r.ovf := by
  rcases acceptSymbol_cases sym r with ⟨_, _, heq⟩ | ⟨_, _, heq⟩ | ⟨b, _, _, heq⟩ | ⟨_, _, heq⟩ | ⟨_, heq⟩ <;>
    rw [heq]
  rcases packBit_cases b r with ⟨_, heq⟩ | ⟨_, heq⟩ <;> rw [heq]
  rfl

theorem acceptSymbols_ovf (syms : List Symbol) (r : Rx) : (acceptSymbols syms r).ovf = r.ovf := by
  induction syms generalizing r with
  | nil => rfl
  | cons sym syms ih => rw [acceptSymbols_cons, ih, acceptSymbol_ovf]

/-- Up to the cap every symbol is counted and accepted (R102). -/
theorem takeSymbols_of_fits {r : Rx} {syms : List Symbol} (h : r.count.toNat + syms.length ≤ 128) :
    takeSymbols syms r = { acceptSymbols syms r with count := r.count + BitVec.ofNat 8 syms.length } := by
  induction syms generalizing r with
  | nil => simp
  | cons sym syms ih =>
    rw [List.length_cons] at h
    have hbelow : r.count ≠ 128 := by bv_omega
    have hsucc : (r.count + 1).toNat = r.count.toNat + 1 := by bv_omega
    have hsum : r.count + 1 + BitVec.ofNat 8 syms.length = r.count + BitVec.ofNat 8 (syms.length + 1) := by bv_omega
    rw [takeSymbols_cons, takeSymbol_of_below hbelow, acceptSymbol_setCount, ih (by simp only [hsucc]; omega),
      acceptSymbols_setCount, acceptSymbols_cons, List.length_cons, hsum]

theorem takeSymbols_at_cap {r : Rx} {syms : List Symbol} (h : r.count = 128) (hne : syms ≠ []) :
    takeSymbols syms r = { r with ovf := true } := by
  induction syms generalizing r with
  | nil => exact absurd rfl hne
  | cons sym syms ih =>
    rw [takeSymbols_cons, takeSymbol_at_cap sym h]
    cases syms with
    | nil => rfl
    | cons sym' syms => exact ih (r := { r with ovf := true }) h (by simp)

theorem takeSymbols_append (syms syms' : List Symbol) (r : Rx) :
    takeSymbols (syms ++ syms') r = takeSymbols syms' (takeSymbols syms r) := by
  simp [takeSymbols]

/-- The pulse after the 128th marks the sequence (R101). -/
theorem takeSymbols_ovf_of_exceeds {r : Rx} {syms : List Symbol} (hcount : r.count = 0) (h : 128 < syms.length) :
    (takeSymbols syms r).ovf = true := by
  have hlen : (syms.take 128).length = 128 := by simp; omega
  have hfits : r.count.toNat + (syms.take 128).length ≤ 128 := by simp [hcount]
  have hcap : (takeSymbols (syms.take 128) r).count = 128 := by
    rw [takeSymbols_of_fits hfits, hlen, hcount]
    rfl
  have hrest : syms.drop 128 ≠ [] := by simp; omega
  rw [← List.take_append_drop 128 syms, takeSymbols_append, takeSymbols_at_cap hcap hrest]

/-! ### The bytes that a list of symbols packs -/

/-- The registers pack, `bits` being the bits of the byte that is not complete yet. -/
structure Packing (r : Rx) (bits : List Bool) : Prop where
  state : r.state = .pack
  len : r.len.toNat < 16
  nbits : r.nbits.toNat = bits.length
  sr : r.sr = packByte bits

theorem packByte_append_bit (bits : List Bool) (b : Bool) : packByte (bits ++ [b]) = shiftIn (packByte bits) b := by
  simp [packByte]

theorem frameOf_length {r : Rx} (h : r.len.toNat ≤ 16) : (frameOf r).length = r.len.toNat := by
  simp [frameOf, h]

/-- A complete byte is the last of the frame the buffer holds (R105). -/
theorem frameOf_completeByte {r : Rx} (byte : Byte) (h : r.len.toNat < 16) :
    frameOf (completeByte byte r) = frameOf r ++ [byte] := by
  have hlen : (r.len + 1).toNat = r.len.toNat + 1 := by bv_omega
  have hset : (r.buf.setIfInBounds r.len.toNat byte).toList = r.buf.toList.set r.len.toNat byte := by simp
  simp only [frameOf, completeByte, hlen, hset]
  simp [List.take_add_one, List.take_set_of_le, h]

theorem acceptSymbols_of_stop {r : Rx} (syms : List Symbol) (h : r.state = .stop) : acceptSymbols syms r = r := by
  induction syms with
  | nil => rfl
  | cons sym syms ih => rw [acceptSymbols_cons, acceptSymbol_of_stop sym h, ih]

theorem chunkBytes_of_short {bits : List Bool} (n : Nat) (h : bits.length < 8) : chunkBytes n bits = [] := by
  cases n <;> simp [chunkBytes, h]

theorem chunkBytes_append {first : List Bool} (n : Nat) (bits : List Bool) (h : first.length = 8) :
    chunkBytes (n + 1) (first ++ bits) = packByte first :: chunkBytes n bits := by
  simp [chunkBytes, h]

/-- A bit that leaves the byte incomplete joins it (R104). -/
theorem packing_of_bit {r : Rx} {bits : List Bool} {sym : Symbol} {b : Bool} (h : Packing r bits)
    (hbit : symbolBit sym = some b) (hroom : bits.length < 7) :
    Packing (acceptSymbol sym r) (bits ++ [b]) ∧ frameOf (acceptSymbol sym r) = frameOf r ∧
      (acceptSymbol sym r).len = r.len := by
  obtain ⟨hstate, hlen, hnbits, hsr⟩ := h
  have hsucc : (r.nbits + 1).toNat = r.nbits.toNat + 1 := by bv_omega
  rw [acceptSymbol_bit_of_pack hbit hstate (by omega)]
  exact ⟨⟨hstate, hlen, by simp only [List.length_append, List.length_singleton]; omega,
    by simp only [hsr, packByte_append_bit]⟩, rfl, rfl⟩

/-- The eighth bit of a byte completes it (R105). -/
theorem acceptSymbol_eighth_of_packing {r : Rx} {bits : List Bool} {sym : Symbol} {b : Bool} (h : Packing r bits)
    (hbit : symbolBit sym = some b) (hfull : bits.length = 7) :
    acceptSymbol sym r = completeByte (packByte (bits ++ [b])) r := by
  obtain ⟨hstate, -, hnbits, hsr⟩ := h
  rw [acceptSymbol_eighth_of_pack hbit hstate (BitVec.eq_of_toNat_eq (hnbits.trans hfull)), hsr, packByte_append_bit]

/-- After a complete byte the next one starts, or the packing stops at `FRAME_MAX` bytes (R105, R106). -/
theorem completeByte_cases {r : Rx} (byte : Byte) (hstate : r.state = .pack) (hlen : r.len.toNat < 16) :
    (completeByte byte r).len.toNat = r.len.toNat + 1 ∧
      (Packing (completeByte byte r) [] ∨ r.len.toNat = 15 ∧ (completeByte byte r).state = .stop) := by
  have hsucc : (r.len + 1).toNat = r.len.toNat + 1 := by bv_omega
  refine ⟨hsucc, ?_⟩
  by_cases hlast : r.len.toNat = 15
  · exact .inr ⟨hlast, by simp only [completeByte, hsucc, hlast, Config.frameMax]; rfl⟩
  · have hmore : ¬ (r.len + 1).toNat = Config.frameMax := by simp only [hsucc, Config.frameMax]; omega
    exact .inl ⟨by simp only [completeByte, if_neg hmore, hstate], by simp only [completeByte]; omega, rfl, rfl⟩

/-- From PACK the leading bits are packed into whole bytes as long as the buffer has room; a partial byte and what
follows the first other symbol are lost (R104 to R108, R111). -/
theorem acceptSymbols_of_packing {r : Rx} {bits : List Bool} (syms : List Symbol) (h : Packing r bits)
    (hshort : bits.length < 8) :
    (acceptSymbols syms r).state ≠ .hunt ∧
      frameOf (acceptSymbols syms r) =
        frameOf r ++ chunkBytes (16 - r.len.toNat) (bits ++ leadingBits syms) := by
  induction syms generalizing r bits with
  | nil => simp [h.state, leadingBits, chunkBytes_of_short _ hshort]
  | cons sym syms ih =>
    rw [acceptSymbols_cons]
    cases hbit : symbolBit sym with
    | none =>
      rw [acceptSymbol_nonBit_of_pack hbit h.state, acceptSymbols_of_stop syms rfl]
      simp [leadingBits, hbit, chunkBytes_of_short _ hshort, frameOf]
    | some b =>
      have hbits : bits ++ leadingBits (sym :: syms) = (bits ++ [b]) ++ leadingBits syms := by
        simp [leadingBits, hbit]
      rw [hbits]
      by_cases hroom : bits.length < 7
      · obtain ⟨hpacking, hframe, hlen⟩ := packing_of_bit h hbit hroom
        rw [← hframe, ← hlen]
        exact ih hpacking (by simp; omega)
      · have hfull : bits.length = 7 := by omega
        have hframe := frameOf_completeByte (packByte (bits ++ [b])) h.len
        obtain ⟨hlen, hnext⟩ := completeByte_cases (packByte (bits ++ [b])) h.state h.len
        have hspace : 16 - r.len.toNat = 15 - r.len.toNat + 1 := by have := h.len; omega
        rw [acceptSymbol_eighth_of_packing h hbit hfull, hspace, chunkBytes_append _ _ (by simp [hfull])]
        rcases hnext with hpacking | ⟨hlast, hstop⟩
        · obtain ⟨hstate, hrest⟩ := ih hpacking (by simp)
          refine ⟨hstate, ?_⟩
          rw [hrest, hframe, hlen]
          simp
        · rw [acceptSymbols_of_stop syms hstop, hframe, hlast]
          simp [hstop, chunkBytes]

/-- From clean registers a list of symbols leaves the bytes of `assemble`, or stays in HUNT without a Sync (R103,
R114). -/
theorem acceptSymbols_of_clean {r : Rx} (syms : List Symbol) (h : RxClean r) :
    (assemble syms = none → (acceptSymbols syms r).state = .hunt) ∧
    (∀ bytes, assemble syms = some bytes →
      (acceptSymbols syms r).state ≠ .hunt ∧ frameOf (acceptSymbols syms r) = bytes) := by
  obtain ⟨hhunt, -, -, hsr, hnbits, hlen⟩ := h
  induction syms with
  | nil => simp [assemble, afterSync, hhunt]
  | cons sym syms ih =>
    by_cases hsym : sym = .sync
    · subst hsym
      have hpacking : Packing { r with state := .pack } [] := ⟨rfl, by simp [hlen], by simp [hnbits], hsr⟩
      rw [acceptSymbols_cons, acceptSymbol_sync_of_hunt hhunt]
      simpa [assemble, afterSync, hlen, frameOf, Config.frameMax] using acceptSymbols_of_packing syms hpacking (by simp)
    · rw [acceptSymbols_cons, acceptSymbol_of_hunt hsym hhunt]
      simpa [assemble, afterSync, hsym] using ih

/-! ## The outcome of a sequence -/

/-- What the assembled bytes come to (R110 to R113, R114). -/
def outcomeOf : Option (List Byte) → RxOutcome
  | none => .drop .noSync
  | some [] => .drop .empty
  | some (b :: bs) =>
    if b ≠ Config.lead then .drop .badLead else .frame (b :: bs) (dispatch (b :: bs).length (b :: bs))

section RxFrame

variable {cap : Nat} {ds : List Duration}

theorem rxFrame_of_exceeds (h : cap < ds.length) : rxFrame cap ds = .drop .overflow := by
  simp [rxFrame, h]

theorem rxFrame_of_short (hcap : ds.length ≤ cap) (h : ds.length < 3) : rxFrame cap ds = .drop .tooShort := by
  simp [rxFrame, List.take_of_length_le hcap, Nat.not_lt.2 hcap, h, Config.minPulses]

theorem rxFrame_of_fits (hcap : ds.length ≤ cap) (h : 3 ≤ ds.length) :
    rxFrame cap ds = outcomeOf (assemble (ds.map classify)) := by
  simp only [rxFrame, List.take_of_length_le hcap, Nat.not_lt.2 hcap, Config.minPulses, Nat.not_lt.2 h, if_false]
  rcases assemble (ds.map classify) with _ | _ | _ <;> rfl

end RxFrame

/-- The outcome the verdict of R110 gives the RX registers. -/
def rxOutcome (r : Rx) : RxOutcome :=
  match frameVerdict r with
  | .none => .frame (frameOf r) (dispatch r.len.toNat (frameOf r))
  | reason => .drop reason

theorem rxOutcome_of_verdict {r : Rx} {reason : DropReason} (h : frameVerdict r = reason) (hreason : reason ≠ .none) :
    rxOutcome r = .drop reason := by
  subst h
  unfold rxOutcome
  cases hv : frameVerdict r <;> simp_all

theorem rxOutcome_of_verdict_none {r : Rx} (h : frameVerdict r = .none) :
    rxOutcome r = .frame (frameOf r) (dispatch r.len.toNat (frameOf r)) := by
  simp [rxOutcome, h]

theorem shownOutcome_deliverFrame (s : State) :
    shownOutcome (deliverFrame s).out = some (.frame (frameOf s.rx) (dispatch s.rx.len.toNat (frameOf s.rx))) := by
  have hheld : heldFrame (deliverFrame s).out = frameOf s.rx := heldFrame_delivered s.draws s.rx rfl rfl
  exact congrArg (fun bytes => some (RxOutcome.frame bytes (deliverFrame s).out.fMatch)) hheld

theorem shownOutcome_dropFrame {s : State} (reason : DropReason) (hvalid : s.out.fValid = false) :
    shownOutcome (dropFrame reason s).out = some (.drop reason) := by
  simp [shownOutcome, dropFrame, hvalid]

/-- In a cycle whose strobes have fallen, the end of a sequence shows the outcome on the output registers (R16, R17). -/
theorem shownOutcome_endFrame {s : State} (hvalid : s.out.fValid = false) :
    shownOutcome (endFrame s).out = some (rxOutcome s.rx) := by
  rcases endFrame_cases s with ⟨hverdict, heq⟩ | ⟨hreason, heq⟩
  · rw [heq, shownOutcome_deliverFrame, rxOutcome_of_verdict_none hverdict]
  · rw [heq, shownOutcome_dropFrame _ hvalid, rxOutcome_of_verdict rfl hreason]

/-- Registers that hold a frame's bytes come to what the assembled bytes do. -/
theorem rxOutcome_of_bytes {r : Rx} {bytes : List Byte} (hovf : r.ovf = false) (hcount : 3 ≤ r.count.toNat)
    (hsync : r.state ≠ .hunt) (hlen : r.len.toNat ≤ 16) (hbytes : frameOf r = bytes) :
    rxOutcome r = outcomeOf (some bytes) := by
  have hlength : bytes.length = r.len.toNat := hbytes ▸ frameOf_length hlen
  cases bytes with
  | nil =>
    exact rxOutcome_of_verdict (frameVerdict_empty hovf hcount hsync (BitVec.eq_of_toNat_eq hlength.symm)) nofun
  | cons b bs =>
    have hpos : r.len.toNat ≠ 0 := by rw [← hlength]; simp
    have hfirst : r.buf[0] = b := by rw [← frameByte_frameOf_zero hpos, hbytes, frameByte_header_zero]
    by_cases hlead : b = Config.lead
    · rw [rxOutcome_of_verdict_none ((frameVerdict_none_iff r).2 ⟨hovf, hcount, hsync, hpos, hfirst.trans hlead⟩),
        hbytes, ← hlength, outcomeOf, if_neg (by simp [hlead])]
    · have hne : r.len ≠ 0 := fun h0 => hpos (by simp [h0])
      rw [rxOutcome_of_verdict (frameVerdict_badLead hovf hcount hsync hne (hfirst ▸ hlead)) nofun, outcomeOf,
        if_pos hlead]

/-- What clean registers hold once they took a sequence that fits: every pulse counted, no mark, and the bytes of
`assemble` (R102, R114). -/
theorem takeSymbols_of_clean {r : Rx} {syms : List Symbol} (h : RxClean r) (hfits : syms.length ≤ 128) :
    (takeSymbols syms r).count.toNat = syms.length ∧ (takeSymbols syms r).ovf = false ∧
    (assemble syms = none → (takeSymbols syms r).state = .hunt) ∧
    (∀ bytes, assemble syms = some bytes →
      (takeSymbols syms r).state ≠ .hunt ∧ frameOf (takeSymbols syms r) = bytes) := by
  have haccept := acceptSymbols_of_clean syms h
  have hovf := acceptSymbols_ovf syms r
  obtain ⟨-, hcount, hclear, -⟩ := h
  rw [takeSymbols_of_fits (by simpa [hcount] using hfits)]
  refine ⟨?_, hovf.trans hclear, haccept⟩
  simp only [hcount]
  bv_omega

/-- The registers that took the pulses of a sequence come to what `rxFrame` says of its durations (R114). -/
theorem rxOutcome_takeSymbols {r : Rx} (ds : List Duration) (h : RxClean r) :
    rxOutcome (takeSymbols (ds.map classify) r) = rxFrame 128 ds := by
  have ⟨_, hzero, _⟩ := h
  by_cases hcap : 128 < ds.length
  · have hmark : (takeSymbols (ds.map classify) r).ovf = true :=
      takeSymbols_ovf_of_exceeds hzero (by simpa using hcap)
    rw [rxFrame_of_exceeds hcap, rxOutcome_of_verdict (frameVerdict_overflow hmark) nofun]
  have hfits : ds.length ≤ 128 := Nat.not_lt.1 hcap
  obtain ⟨hcount, hovf, hnone, hsome⟩ := takeSymbols_of_clean (syms := ds.map classify) h (by simpa using hfits)
  rw [List.length_map] at hcount
  by_cases hshort : ds.length < 3
  · rw [rxFrame_of_short hfits hshort, rxOutcome_of_verdict (frameVerdict_tooShort hovf (hcount ▸ hshort)) nofun]
  have hlong : 3 ≤ (takeSymbols (ds.map classify) r).count.toNat := hcount ▸ Nat.not_lt.1 hshort
  rw [rxFrame_of_fits hfits (Nat.not_lt.1 hshort)]
  cases hassemble : assemble (ds.map classify) with
  | none => exact rxOutcome_of_verdict (frameVerdict_noSync hovf hlong (hnone hassemble)) nofun
  | some bytes =>
    obtain ⟨hsync, hbytes⟩ := hsome bytes hassemble
    have hlen := len_le_of_rxInv (takeSymbols_keeps_rxInv (ds.map classify) (rxInv_of_clean h))
    exact rxOutcome_of_bytes hovf hlong hsync (hlen.trans (by decide)) hbytes

/-- Settles O23: the samples are taken symbols, and the end shows the outcome of the registers they leave. -/
theorem rxFrameAgrees : Obligations.RxFrameAgrees := by
  intro s ds hidle hclean
  refine ⟨frameEndCycle (runSamples ds s), ?_, ?_, ?_, by simp⟩
  · rw [runAll_map_sample_append]
    rfl
  · rw [frameEndCycle_runSamples_of_idle ds hidle, shownOutcome_endFrame rfl, State.setRx_rx,
      rxOutcome_takeSymbols ds hclean]
  · rw [frameEndCycle_runSamples_of_idle ds hidle, endFrame_rx]
    exact clearRx_clean _

/-! ## The pulses of a list of bytes -/

/-- The pulse of a bit as a perfect front end measures it (R61). -/
def bitPulse (v : Bool) : Duration :=
  BitVec.ofNat durW (bitActive v)

theorem classify_bitPulse (v : Bool) : symbolBit (classify (bitPulse v)) = some v := by
  cases v <;> rfl

theorem framePulses_eq_bitPulses (bytes : List Byte) :
    framePulses bytes = BitVec.ofNat durW Config.tSyncA :: (bytes.flatMap byteBits).map bitPulse := by
  rw [List.map_flatMap]
  rfl

theorem flatMap_byteBits_length (bytes : List Byte) : (bytes.flatMap byteBits).length = 8 * bytes.length := by
  simp [List.length_flatMap, byteBits, Nat.mul_comm]

theorem framePulses_length (bytes : List Byte) : (framePulses bytes).length = 8 * bytes.length + 1 := by
  rw [framePulses_eq_bitPulses, List.length_cons, List.length_map, flatMap_byteBits_length]

/-- Settles O25: the 129th pulse marks the sequence. -/
theorem sixteenByteFrameOverflows : Obligations.SixteenByteFrameOverflows := by
  intro s frame hidle hclean _ hlength
  have hpulses : (framePulses frame).length = 129 := by rw [framePulses_length, hlength]
  obtain ⟨-, hcount, -⟩ := hclean
  have hovf : (takeSymbols ((framePulses frame).map classify) s.rx).ovf = true :=
    takeSymbols_ovf_of_exceeds hcount (by simp [hpulses])
  refine ⟨hpulses, dropFrame .overflow ((quiet s).setRx (takeSymbols ((framePulses frame).map classify) s.rx)), ?_,
    rfl, rfl, rfl, rfl, rfl, rfl, clearRx_clean _, rfl⟩
  rw [exec_rxFrame_eq_receiveFrame rfl, receiveFrame, frameEndCycle_runSamples_of_idle _ hidle]
  exact congrArg _ (endFrame_of_verdict (frameVerdict_overflow hovf) nofun)

theorem activeDurations_flatMap_bits (bits : List Bool) :
    activeDurations (bits.flatMap fun v => [(true, bitActive v), (false, Config.tIdle)]) = bits.map bitPulse := by
  induction bits with
  | nil => rfl
  | cons v bits ih => exact congrArg (bitPulse v :: ·) ih

/-- A perfect front end measures a sent command as the pulses of a received frame (R61, R63, R146). -/
theorem activeDurations_serialize (bytes : List Byte) : activeDurations (serialize bytes) = framePulses bytes := by
  rw [framePulses_eq_bitPulses, ← activeDurations_flatMap_bits, List.flatMap_assoc]
  simp [serialize, activeDurations]

theorem shiftIn_getLsbD_zero (sr : Byte) (b : Bool) : (shiftIn sr b).getLsbD 0 = b := by
  rw [shiftIn, BitVec.getLsbD_append]
  simp

theorem shiftIn_getLsbD_succ (sr : Byte) (b : Bool) {i : Nat} (h : i < 7) :
    (shiftIn sr b).getLsbD (i + 1) = sr.getLsbD i := by
  rw [shiftIn, BitVec.getLsbD_append]
  simp [h]

/-- A byte's bits, shifted in most significant first, stand where they were (R43, R72). -/
theorem packByte_byteBits (b : Byte) : packByte (byteBits b) = b := by
  apply BitVec.eq_of_getLsbD_eq
  intro i hi
  simp only [packByte, byteBits, List.foldl_cons, List.foldl_nil]
  interval_cases i <;> simp only [shiftIn_getLsbD_succ, shiftIn_getLsbD_zero, Nat.reduceLT]

theorem leadingBits_bitPulses (bits : List Bool) : leadingBits ((bits.map bitPulse).map classify) = bits := by
  induction bits with
  | nil => rfl
  | cons v bits ih => simp only [List.map_cons, leadingBits, classify_bitPulse, ih]

theorem chunkBytes_flatMap_byteBits {n : Nat} {bytes : List Byte} (h : bytes.length ≤ n) :
    chunkBytes n (bytes.flatMap byteBits) = bytes := by
  induction bytes generalizing n with
  | nil => exact chunkBytes_of_short n (by simp)
  | cons b bs ih =>
    obtain ⟨m, rfl⟩ := Nat.exists_eq_succ_of_ne_zero (Nat.ne_zero_of_lt h)
    rw [List.flatMap_cons, chunkBytes_append m _ rfl, packByte_byteBits, ih (Nat.le_of_succ_le_succ h)]

/-- The pulses of up to 16 bytes assemble to these bytes (R72, R114). -/
theorem assemble_framePulses {bytes : List Byte} (h : bytes.length ≤ Config.frameMax) :
    assemble ((framePulses bytes).map classify) = some bytes := by
  have hsync : classify (BitVec.ofNat durW Config.tSyncA) = .sync := rfl
  rw [framePulses_eq_bitPulses, List.map_cons, hsync, assemble, afterSync, if_pos rfl, Option.map_some,
    leadingBits_bitPulses, chunkBytes_flatMap_byteBits h]

/-- Settles O50: the echo is the pulses of its bytes, which fit below the cap. -/
theorem echoAssembles : Obligations.EchoAssembles := by
  intro b bs hlength
  have hpulses := framePulses_length (b :: bs)
  have hpos : (b :: bs).length = bs.length + 1 := rfl
  have hmax : (b :: bs).length ≤ Config.frameMax := hlength.trans (by decide)
  rw [activeDurations_serialize, rxFrame_of_fits (by omega) (by omega), assemble_framePulses hmax]
  exact ite_not ..

end Sys2Proof.Proofs.Assembler
end

section
/-! The dispatcher (42_dispatcher.md): the six shapes exclude each other, DISPATCH says which one a frame has, and each
FRAME row delivers its frame with the bit of its own shape. -/

namespace Sys2Proof.Proofs.Dispatcher

open Sys2Proof.Machine Sys2Proof.Safety Sys2Proof.Proofs.RegisterState Sys2Proof.Proofs.Encoding
  Sys2Proof.Proofs.Classifier Sys2Proof.Proofs.Assembler

/-! ## The match vector -/

section MatchVector

variable {len : Nat} {frame : List Byte}

/-- Each bit of the vector is its own predicate (R120, R127). -/
theorem dispatch_bits (len : Nat) (frame : List Byte) :
    (dispatch len frame).getLsbD 0 = matchTransport len frame ∧
    (dispatch len frame).getLsbD 1 = matchTrackStatus len frame ∧
    (dispatch len frame).getLsbD 2 = matchTimeStatus len frame ∧
    (dispatch len frame).getLsbD 3 = matchExtendedStatus len frame ∧
    (dispatch len frame).getLsbD 4 = matchHeartbeat len frame ∧
    (dispatch len frame).getLsbD 5 = matchUnknown len frame := by
  refine ⟨?_, ?_, ?_, ?_, ?_, ?_⟩ <;> rw [dispatch, BitVec.getLsbD_append] <;>
    simp only [BitVec.getLsbD_append] <;> simp

/-! A shape's length and header bytes rule the four others out: the length where it differs, byte 1 between Transport
and Heartbeat, byte 3 between TrackStatus and TimeStatus. -/

theorem dispatch_of_matchTransport (h : matchTransport len frame = true) : dispatch len frame = 0b000001#6 := by
  have hshape := h
  simp only [matchTransport, Bool.and_eq_true, beq_iff_eq, Bool.or_eq_true] at hshape
  obtain ⟨⟨⟨rfl, -⟩, hdev⟩, -⟩ := hshape
  have hheartbeat : matchHeartbeat 4 frame = false := by
    rcases hdev with hdev | hdev <;> simp [matchHeartbeat, hdev]
  simp [dispatch, matchUnknown, h, hheartbeat, matchTrackStatus, matchTimeStatus, matchExtendedStatus]

theorem dispatch_of_matchTrackStatus (h : matchTrackStatus len frame = true) : dispatch len frame = 0b000010#6 := by
  have hshape := h
  simp only [matchTrackStatus, Bool.and_eq_true, beq_iff_eq] at hshape
  obtain ⟨⟨⟨rfl, -⟩, -⟩, hsub⟩ := hshape
  simp [dispatch, matchUnknown, h, hsub, matchTransport, matchTimeStatus, matchExtendedStatus, matchHeartbeat]

theorem dispatch_of_matchTimeStatus (h : matchTimeStatus len frame = true) : dispatch len frame = 0b000100#6 := by
  have hshape := h
  simp only [matchTimeStatus, Bool.and_eq_true, beq_iff_eq] at hshape
  obtain ⟨⟨⟨rfl, -⟩, -⟩, hsub⟩ := hshape
  simp [dispatch, matchUnknown, h, hsub, matchTransport, matchTrackStatus, matchExtendedStatus, matchHeartbeat]

theorem dispatch_of_matchExtendedStatus (h : matchExtendedStatus len frame = true) :
    dispatch len frame = 0b001000#6 := by
  have hshape := h
  simp only [matchExtendedStatus, Bool.and_eq_true, beq_iff_eq] at hshape
  obtain ⟨⟨⟨rfl, -⟩, -⟩, -⟩ := hshape
  simp [dispatch, matchUnknown, h, matchTransport, matchTrackStatus, matchTimeStatus, matchHeartbeat]

theorem dispatch_of_matchHeartbeat (h : matchHeartbeat len frame = true) : dispatch len frame = 0b010000#6 := by
  have hshape := h
  simp only [matchHeartbeat, Bool.and_eq_true, beq_iff_eq] at hshape
  obtain ⟨⟨⟨⟨rfl, -⟩, hdev⟩, -⟩, -⟩ := hshape
  simp [dispatch, matchUnknown, h, hdev, matchTransport, matchTrackStatus, matchTimeStatus, matchExtendedStatus]

theorem dispatch_of_matchUnknown (h : matchUnknown len frame = true) : dispatch len frame = 0b100000#6 := by
  obtain ⟨htransport, htrack, htime, hextended, hheartbeat⟩ := (matchUnknown_iff len frame).1 h
  simp [dispatch, h, htransport, htrack, htime, hextended, hheartbeat]

/-- The vector has one of six values, each a single bit (R127). -/
theorem dispatch_eq_twoPow (len : Nat) (frame : List Byte) : ∃ k : Fin 6, dispatch len frame = BitVec.twoPow 6 k := by
  by_cases htransport : matchTransport len frame = true
  · exact ⟨0, dispatch_of_matchTransport htransport⟩
  by_cases htrack : matchTrackStatus len frame = true
  · exact ⟨1, dispatch_of_matchTrackStatus htrack⟩
  by_cases htime : matchTimeStatus len frame = true
  · exact ⟨2, dispatch_of_matchTimeStatus htime⟩
  by_cases hextended : matchExtendedStatus len frame = true
  · exact ⟨3, dispatch_of_matchExtendedStatus hextended⟩
  by_cases hheartbeat : matchHeartbeat len frame = true
  · exact ⟨4, dispatch_of_matchHeartbeat hheartbeat⟩
  · simp only [Bool.not_eq_true] at htransport htrack htime hextended hheartbeat
    exact ⟨5, dispatch_of_matchUnknown
      ((matchUnknown_iff len frame).2 ⟨htransport, htrack, htime, hextended, hheartbeat⟩)⟩

end MatchVector

/-- Settles O12: the vector is a power of two. -/
theorem dispatchOneHot : Obligations.DispatchOneHot := by
  intro len frame
  obtain ⟨k, hk⟩ := dispatch_eq_twoPow len frame
  refine ⟨k, fun j => ?_⟩
  rw [hk, BitVec.getLsbD_twoPow]
  simp [Fin.ext_iff, eq_comm]

/-! ## DISPATCH -/

theorem exec_dispatch (frame : List Byte) (s : State) :
    exec (.dispatch frame) s = .next { s with opResult := .vector (dispatch frame.length frame) } := rfl

/-- The device bit of a Transport frame is its device byte, 0x40 or 0x44 (R65). -/
theorem exists_transportFrame_iff (frame : List Byte) :
    (∃ second code, frame = transportFrame second code) ↔
      ∃ dev code, (dev = 0x40 ∨ dev = 0x44) ∧ frame = [0x41, dev, 0x00, code] := by
  constructor
  · rintro ⟨second, code, rfl⟩
    cases second with
    | false => exact ⟨0x40, code, .inl rfl, rfl⟩
    | true => exact ⟨0x44, code, .inr rfl, rfl⟩
  · rintro ⟨dev, code, rfl | rfl, rfl⟩
    · exact ⟨false, code, rfl⟩
    · exact ⟨true, code, rfl⟩

/-- Settles O11: each bit is its predicate, and each predicate is its shape. -/
theorem dispatchCompletes : Obligations.DispatchCompletes := by
  intro frame s
  refine ⟨dispatch frame.length frame, exec_dispatch frame s, ?_⟩
  obtain ⟨htransport, htrack, htime, hextended, hheartbeat, hunknown⟩ := dispatch_bits frame.length frame
  rw [htransport, htrack, htime, hextended, hheartbeat, hunknown]
  exact ⟨(matchTransport_iff frame).trans (exists_transportFrame_iff frame), matchTrackStatus_iff frame,
    matchTimeStatus_iff frame, matchExtendedStatus_iff frame, matchHeartbeat_iff frame, matchUnknown_iff _ frame⟩

/-! ## What a reception leaves of the buffer -/

/-- From `r` to `r'` the buffer is written at most below the new length (R105). -/
def KeepsTail (r r' : Rx) : Prop :=
  r.len.toNat ≤ r'.len.toNat ∧ r'.buf.toList.drop r'.len.toNat = r.buf.toList.drop r'.len.toNat

theorem keepsTail_of_eq {r r' : Rx} (hlen : r'.len = r.len) (hbuf : r'.buf = r.buf) : KeepsTail r r' := by
  simp [KeepsTail, hlen, hbuf]

theorem keepsTail_trans {r₁ r₂ r₃ : Rx} (h₁₂ : KeepsTail r₁ r₂) (h₂₃ : KeepsTail r₂ r₃) : KeepsTail r₁ r₃ := by
  obtain ⟨hlen₁₂, htail₁₂⟩ := h₁₂
  obtain ⟨hlen₂₃, htail₂₃⟩ := h₂₃
  refine ⟨hlen₁₂.trans hlen₂₃, htail₂₃.trans ?_⟩
  rw [← Nat.add_sub_cancel' hlen₂₃, ← List.drop_drop, htail₁₂, List.drop_drop]

theorem completeByte_keepsTail {r : Rx} (byte : Byte) (h : r.len.toNat ≤ 15) : KeepsTail r (completeByte byte r) := by
  have hsucc : (r.len + 1).toNat = r.len.toNat + 1 := by bv_omega
  have hset : (r.buf.setIfInBounds r.len.toNat byte).toList = r.buf.toList.set r.len.toNat byte := by simp
  simp only [KeepsTail, completeByte, hsucc, hset]
  exact ⟨Nat.le_succ _, List.drop_set_of_lt (Nat.lt_succ_self _)⟩

theorem packBit_keepsTail {r : Rx} (b : Bool) (h : r.len.toNat ≤ 15) : KeepsTail r (packBit b r) := by
  rcases packBit_cases b r with ⟨_, heq⟩ | ⟨_, heq⟩ <;> rw [heq]
  · exact keepsTail_of_eq rfl rfl
  · exact completeByte_keepsTail _ h

theorem acceptSymbol_keepsTail {r : Rx} (sym : Symbol) (h : r.len.toNat ≤ 15) : KeepsTail r (acceptSymbol sym r) := by
  rcases acceptSymbol_cases sym r with ⟨_, _, heq⟩ | ⟨_, _, heq⟩ | ⟨b, _, _, heq⟩ | ⟨_, _, heq⟩ | ⟨_, heq⟩ <;> rw [heq]
  case inr.inr.inl => exact packBit_keepsTail b h
  all_goals exact keepsTail_of_eq rfl rfl

theorem takeSymbol_keepsTail {r : Rx} (sym : Symbol) (h : RxInv r) : KeepsTail r (takeSymbol sym r) := by
  rcases takeSymbol_cases sym r with ⟨_, heq⟩ | ⟨_, heq⟩ <;> rw [heq]
  · exact keepsTail_of_eq rfl rfl
  · rw [acceptSymbol_setCount]
    exact acceptSymbol_keepsTail sym (len_le_of_rxInv h)

theorem takeSymbols_keepsTail {r : Rx} (syms : List Symbol) (h : RxInv r) : KeepsTail r (takeSymbols syms r) := by
  induction syms generalizing r with
  | nil => exact keepsTail_of_eq rfl rfl
  | cons sym syms ih => exact keepsTail_trans (takeSymbol_keepsTail sym h) (ih (takeSymbol_keeps_rxInv sym h))

/-! ## The received-frame rows -/

/-- The RX registers after the pulses of a frame are presented to an idle block. -/
def takeFrame (frame : List Byte) (r : Rx) : Rx :=
  takeSymbols ((framePulses frame).map classify) r

theorem receiveFrame_of_idle {s : State} (frame : List Byte) (hidle : s.tx.phase = .idle) :
    receiveFrame frame s = endFrame ((quiet s).setRx (takeFrame frame s.rx)) :=
  frameEndCycle_runSamples_of_idle (framePulses frame) hidle

section TakeFrame

variable {r : Rx} {frame : List Byte}

theorem takeFrame_len_le (h : RxClean r) : (takeFrame frame r).len.toNat ≤ 15 :=
  len_le_of_rxInv (takeSymbols_keeps_rxInv _ (rxInv_of_clean h))

/-- A frame of up to 15 bytes stays below the cap, and the registers hold its bytes (R72, R102). -/
theorem takeFrame_of_clean (h : RxClean r) (hmax : frame.length ≤ 15) :
    (takeFrame frame r).count.toNat = 8 * frame.length + 1 ∧ (takeFrame frame r).ovf = false ∧
    (takeFrame frame r).state ≠ .hunt ∧ frameOf (takeFrame frame r) = frame := by
  have hpulses : ((framePulses frame).map classify).length = 8 * frame.length + 1 := by
    rw [List.length_map, framePulses_length]
  have hfits : ((framePulses frame).map classify).length ≤ 128 := by omega
  obtain ⟨hcount, hovf, -, hsome⟩ := takeSymbols_of_clean h hfits
  exact ⟨hcount.trans hpulses, hovf, hsome frame (assemble_framePulses (hmax.trans (by decide)))⟩

theorem takeFrame_len (h : RxClean r) (hmax : frame.length ≤ 15) :
    (takeFrame frame r).len.toNat = frame.length := by
  obtain ⟨-, -, -, hframe⟩ := takeFrame_of_clean h hmax
  rw [← frameOf_length ((takeFrame_len_le h).trans (by decide)), hframe]

/-- Such a frame passes every check of R110 when it starts with the lead byte. -/
theorem frameVerdict_takeFrame (h : RxClean r) (hmin : 1 ≤ frame.length) (hmax : frame.length ≤ 15)
    (hlead : frameByte frame 0 = Config.lead) : frameVerdict (takeFrame frame r) = .none := by
  obtain ⟨hcount, hovf, hsync, hframe⟩ := takeFrame_of_clean h hmax
  have hlong : 3 ≤ (takeFrame frame r).count.toNat := by omega
  have hpos : (takeFrame frame r).len.toNat ≠ 0 := by rw [takeFrame_len h hmax]; omega
  refine (frameVerdict_none_iff _).2 ⟨hovf, hlong, hsync, hpos, ?_⟩
  rw [← frameByte_frameOf_zero hpos, hframe, hlead]

theorem takeFrame_buf_drop (h : RxClean r) (hmax : frame.length ≤ 15) :
    (takeFrame frame r).buf.toList.drop frame.length = r.buf.toList.drop frame.length := by
  obtain ⟨-, htail⟩ := takeSymbols_keepsTail ((framePulses frame).map classify) (rxInv_of_clean h)
  exact takeFrame_len h hmax ▸ htail

end TakeFrame

/-- A row whose frame has up to 15 bytes delivers it (R113; notes/assumptions/8.md). -/
theorem exec_rxFrame_of_clean {i : Instr} {s : State} (hc : channelOf i = .rxFrame) (hwf : i.wellFormed = true)
    (hidle : s.tx.phase = .idle) (hclean : RxClean s.rx) (hmax : (encode i).length ≤ 15) :
    exec i s = .next (deliverFrame ((quiet s).setRx (takeFrame (encode i) s.rx))) := by
  obtain ⟨hmin, -, hlead⟩ := valid_of_decodeRxFrame (decode_encode_rxFrame hc hwf)
  rw [exec_rxFrame_eq_receiveFrame hc, receiveFrame_of_idle _ hidle,
    endFrame_of_verdict_none (frameVerdict_takeFrame hclean hmin hmax hlead)]

theorem delivers_of_rxFrame {i : Instr} {s : State} {m : BitVec 6} (hc : channelOf i = .rxFrame)
    (hwf : i.wellFormed = true) (hidle : s.tx.phase = .idle) (hclean : RxClean s.rx) (hmax : (encode i).length ≤ 15)
    (hmatch : dispatch (encode i).length (encode i) = m) : Delivers i s (encode i) m := by
  obtain ⟨-, -, -, hframe⟩ := takeFrame_of_clean hclean hmax
  have hlen := takeFrame_len hclean hmax
  exact ⟨_, exec_rxFrame_of_clean hc hwf hidle hclean hmax, rfl, hlen,
    (heldFrame_delivered s.draws _ rfl rfl).trans hframe, (congrArg₂ dispatch hlen hframe).trans hmatch, rfl, rfl, rfl,
    clearRx_clean _, hlen ▸ hframe, takeFrame_buf_drop hclean hmax, rfl, rfl, rfl⟩

/-- Settles O24: each row's frame has the shape of its row and no more than 15 bytes. -/
theorem frameRowsDeliver : Obligations.FrameRowsDeliver := by
  intro s hidle hclean
  refine ⟨fun second code => ?transport, fun device payload hlen => ?trackStatus,
    fun device payload hlen => ?timeStatus, fun device payload hlen => ?extendedStatus, ?heartbeat,
    fun frame hwf hmax => ?unknown⟩
  case transport =>
    exact delivers_of_rxFrame (i := .frameTransport second code) rfl rfl hidle hclean
      (by simp [encode, transportFrame])
      (dispatch_of_matchTransport ((matchTransport_iff _).2 ⟨second, code, rfl⟩))
  case trackStatus =>
    exact delivers_of_rxFrame (i := .frameTrackstatus device payload) rfl (beq_iff_eq.2 hlen) hidle hclean
      (by simp [encode, trackStatusFrame, hlen])
      (dispatch_of_matchTrackStatus ((matchTrackStatus_iff _).2 ⟨device, payload, hlen, rfl⟩))
  case timeStatus =>
    exact delivers_of_rxFrame (i := .frameTimestatus device payload) rfl (beq_iff_eq.2 hlen) hidle hclean
      (by simp [encode, timeStatusFrame, hlen])
      (dispatch_of_matchTimeStatus ((matchTimeStatus_iff _).2 ⟨device, payload, hlen, rfl⟩))
  case extendedStatus =>
    exact delivers_of_rxFrame (i := .frameExtendedstatus device payload) rfl (beq_iff_eq.2 hlen) hidle hclean
      (by simp [encode, extendedStatusFrame, hlen])
      (dispatch_of_matchExtendedStatus ((matchExtendedStatus_iff _).2 ⟨device, payload, hlen, rfl⟩))
  case heartbeat =>
    exact delivers_of_rxFrame (i := .frameHeartbeat) rfl rfl hidle hclean (by decide)
      (dispatch_of_matchHeartbeat ((matchHeartbeat_iff _).2 rfl))
  case unknown =>
    obtain ⟨-, hunknown⟩ := (frameUnknown_wellFormed_iff frame).1 hwf
    exact delivers_of_rxFrame (i := .frameUnknown frame) rfl hwf hidle hclean hmax (dispatch_of_matchUnknown hunknown)

end Sys2Proof.Proofs.Dispatcher
end

section
/-! The serializer (43_serializer.md): how a START is accepted or turned away, what the TICK that ends each phase does,
that nothing but RESET cuts a command short, and that the phases drive the waveform of `serialize`. -/

namespace Sys2Proof.Proofs.Serializer

open Sys2Proof.Machine Sys2Proof.Safety Sys2Proof.Proofs.RegisterState Sys2Proof.Proofs.Encoding

/-! ## START -/

/-- The length of a command fits three bits, whatever the count (R25, R137). -/
theorem startLength_toNat (np : BitVec 2) : (2 + np.setWidth 3 : BitVec 3).toNat = 2 + np.toNat := by
  bv_omega

theorem exec_start_accepted {s : State} {np : BitVec 2} (b0 b1 b2 b3 : Byte) (hidle : s.tx.phase = .idle)
    (hnp : np ≠ 3) :
    exec (.start np b0 b1 b2 b3) s = .next { quiet s with tx := startedTx (2 + np.setWidth 3) b0 b1 b2 b3 } := by
  rw [exec_start, startCycle_accepted hidle hnp]

/-- Settles O32: the length is the count that fits three bits. -/
theorem startAccepted : Obligations.StartAccepted :=
  fun _ _ b0 b1 b2 b3 hidle hnp => ⟨_, startLength_toNat _, exec_start_accepted b0 b1 b2 b3 hidle hnp⟩

/-- The reserved count 3 is refused in any phase (R82, R208). -/
theorem startCycle_of_reserved {o : StartOperands} (s : State) (h : o.np = 3) : startCycle o s = quiet s := by
  rcases startCycle_cases o s with ⟨_, hnp, _⟩ | ⟨_, heq⟩
  · exact absurd h hnp
  · exact heq

/-- A playDisc row with arguments in its range issues a START (R157, R161). -/
theorem exists_playDiscIn_eq_some {lo hi player disc track : Nat} (hplayer : player = 1 ∨ player = 2) (hlo : 1 ≤ lo)
    (hhi : hi ≤ 300) (hlow : lo ≤ disc) (hhigh : disc ≤ hi) (htrack : track ≤ 99) :
    ∃ o, playDiscIn lo hi player disc track = some o := by
  rw [playDiscIn, if_pos ⟨hlow, hhigh⟩, playDisc, if_pos ⟨hlo.trans hlow, hhigh.trans hhi, htrack⟩]
  rcases hplayer with rfl | rfl <;> exact ⟨_, rfl⟩

theorem callStart_playDiscIn_of_busy {s : State} {lo hi player disc track : Nat} (hbusy : s.tx.phase ≠ .idle)
    (hplayer : player = 1 ∨ player = 2) (hlo : 1 ≤ lo) (hhi : hi ≤ 300) (hlow : lo ≤ disc) (hhigh : disc ≤ hi)
    (htrack : track ≤ 99) : callStart (playDiscIn lo hi player disc track) s = quiet s := by
  obtain ⟨o, ho⟩ := exists_playDiscIn_eq_some hplayer hlo hhi hlow hhigh htrack
  rw [ho, callStart, startCycle_of_busy o hbusy]

/-- Settles O33: every such row is a START, which a busy block and the reserved count turn away. -/
theorem startTurnedAway : Obligations.StartTurnedAway := by
  refine ⟨fun s b0 b1 b2 b3 => ?reserved, fun s np b0 b1 b2 b3 hbusy => ?busy,
    fun s disc track hbusy htrack => ⟨fun hlow hhigh => ?discLow, fun hlow hhigh => ?discHigh⟩, fun s => ⟨rfl, rfl⟩⟩
  case reserved => rw [exec_start, startCycle_of_reserved s rfl]
  case busy =>
    have haway (o : StartOperands) :
        (.next (startCycle o s) : Host.Outcome State Fault Refusal) = .next (quiet s) := by
      rw [startCycle_of_busy o hbusy]
    exact ⟨haway _, haway _, haway _, haway _, fun _ => haway _, haway _, haway _, haway _, haway _, haway _,
      haway _, haway _⟩
  case discLow =>
    rw [exec_playDiscP1Low, exec_playDiscP2Low,
      callStart_playDiscIn_of_busy hbusy (.inl rfl) le_rfl (by decide) hlow hhigh htrack,
      callStart_playDiscIn_of_busy hbusy (.inr rfl) le_rfl (by decide) hlow hhigh htrack]
    exact ⟨rfl, rfl⟩
  case discHigh =>
    rw [exec_playDiscP1High, exec_playDiscP2High,
      callStart_playDiscIn_of_busy hbusy (.inl rfl) (by decide) le_rfl hlow hhigh htrack,
      callStart_playDiscIn_of_busy hbusy (.inr rfl) (by decide) le_rfl hlow hhigh htrack]
    exact ⟨rfl, rfl⟩

/-! ## The TICK that ends a phase -/

theorem ofNat13_bitActive (v : Bool) : BitVec.ofNat 13 (bitActive v) = if v then 1200 else 600 := by
  cases v <;> rfl

/-- Entering the bit at an index changes the phase, the timer and the indices (R141, R143). -/
theorem enterBit_eq (t : Tx) (byte : BitVec 2) (bit : BitVec 3) :
    enterBit t byte bit =
      { t with phase := .bitA, byte := byte, bit := bit, timer := if txBitAt t byte bit then 1200 else 600 } := by
  rw [enterBit, ofNat13_bitActive]

section LastMicrosecond

variable {s : State} {phase : TxPhase} (hphase : s.tx.phase = phase) (htimer : s.tx.timer = 1)
include hphase htimer

/-- In every phase but IDLE and SETTLE the TICK of its last microsecond leaves the phase, and only the strobes change
beside (R138). -/
theorem exec_tick_leave (hbusy : phase ≠ .idle) (hsettle : phase ≠ .settle) :
    exec .tick s = .next { quiet s with tx := leavePhase s.tx } := by
  subst hphase
  exact congrArg _ (tickCycle_leave (s := s) hbusy hsettle (by simp [htimer]))

/-- The TICK that ends SETTLE pulses Done beside (R144). -/
theorem exec_tick_leave_settle (hsettle : phase = .settle) :
    exec .tick s = .next { quiet s with
      tx := leavePhase s.tx
      out := { (quiet s).out with txDone := true } } := by
  subst hsettle
  rcases tickCycle_cases s with ⟨hidle, _⟩ | ⟨_, hmore, _⟩ | ⟨_, _, heq⟩
  · simp [hphase] at hidle
  · simp [htimer] at hmore
  · rw [exec_tick, heq, hphase]
    rfl

end LastMicrosecond

/-- Settles O39: PRE is left for SYNC_A, which drives the output. -/
theorem tickLeavesPre : Obligations.TickLeavesPre := by
  intro s hphase htimer
  rw [exec_tick_leave hphase htimer nofun nofun, leavePhase_pre hphase, hphase]
  exact ⟨rfl, rfl, rfl⟩

/-- Settles O40: SYNC_A is left for its delimiter. -/
theorem tickLeavesSyncA : Obligations.TickLeavesSyncA := by
  intro s hphase htimer
  rw [exec_tick_leave hphase htimer nofun nofun, leavePhase_syncA hphase, hphase]
  exact ⟨rfl, rfl, rfl⟩

/-- Settles O41: SYNC_I is left for the first bit. -/
theorem tickLeavesSyncI : Obligations.TickLeavesSyncI := by
  intro s hphase htimer
  rw [exec_tick_leave hphase htimer nofun nofun, leavePhase_firstBit hphase, ofNat13_bitActive, hphase]
  exact ⟨rfl, rfl, rfl⟩

/-- Settles O42: BIT_A is left for its delimiter. -/
theorem tickLeavesBitA : Obligations.TickLeavesBitA := by
  intro s hphase htimer
  rw [exec_tick_leave hphase htimer nofun nofun, leavePhase_bitA hphase, hphase]
  exact ⟨rfl, rfl, rfl⟩

/-- Settles O43: BIT_I is left for the next bit, of the same byte or of the next one, or for SETTLE. -/
theorem tickLeavesBitI : Obligations.TickLeavesBitI := by
  intro s hphase htimer _
  rw [exec_tick_leave hphase htimer nofun nofun]
  refine ⟨fun hbit => ?sameByte, fun hbit hbyte hfour => ?nextByte, fun hbit hlast => ?lastBit⟩
  case sameByte =>
    have hindex : (s.tx.bit - 1).toNat = s.tx.bit.toNat - 1 := by bv_omega
    rw [leavePhase_bitI_next hphase (nextPosition_of_cases (.inl ⟨hbit, rfl, rfl⟩)), enterBit_eq, txBitAt, hindex]
  case nextByte =>
    have hindex : (s.tx.byte + 1).toNat = s.tx.byte.toNat + 1 := by bv_omega
    rw [leavePhase_bitI_next hphase (nextPosition_of_cases (.inr ⟨hbit, hbyte, rfl, rfl⟩)), enterBit_eq]
    simp only [txBitAt, hindex]
    rfl
  case lastBit =>
    have hnext : nextPosition s.tx = none := by
      rw [nextPosition, if_neg (by simp [hbit]), if_neg (by omega)]
    rw [leavePhase_bitI_last hphase hnext]
    rfl

/-- Settles O44: SETTLE is left for IDLE with Done. -/
theorem tickLeavesSettle : Obligations.TickLeavesSettle := by
  intro s hphase htimer
  rw [exec_tick_leave_settle hphase htimer rfl, leavePhase_settle hphase]

/-! ## A sent symbol that is not due -/

theorem exec_txsymRow_of_not_due {sym : TxSymbol} {s : State} (h : dueSymbol s.tx ≠ some sym) :
    exec (txsymRow sym) s = .next s := by
  rw [exec_txsymRow, sendSymbol, if_neg h]

/-- The bit after a delimiter stands at the next lower bit, or at bit 7 of the next byte. -/
theorem cases_of_nextPosition {t : Tx} {p : BitVec 2 × BitVec 3} (h : nextPosition t = some p) :
    (0 < t.bit.toNat ∧ p.1 = t.byte ∧ p.2 = t.bit - 1) ∨
      (t.bit = 0 ∧ t.byte.toNat + 1 < t.len.toNat ∧ p.1 = t.byte + 1 ∧ p.2 = 7) := by
  rcases nextPosition_cases t with ⟨hbit, heq⟩ | ⟨hbit, hbyte, heq⟩ | ⟨_, _, heq⟩
  · obtain rfl := Option.some.inj (heq.symm.trans h)
    exact .inl ⟨hbit, rfl, rfl⟩
  · obtain rfl := Option.some.inj (heq.symm.trans h)
    exact .inr ⟨hbit, hbyte, rfl, rfl⟩
  · simp [heq] at h

/-- Settles O47: where a symbol is due, the phase, the timer and the bit are those of one of its cases. -/
theorem txsymNotDue : Obligations.TxsymNotDue := by
  refine fun s => ⟨fun hsync => exec_txsymRow_of_not_due (sym := .sync) fun hdue => ?sync, fun v hfirst hnext => ?bit⟩
  case sync =>
    obtain ⟨htimer, ⟨hp, -⟩ | ⟨-, hsym⟩ | ⟨-, _, -, hsym⟩⟩ := dueSymbol_some _ _ hdue
    · exact hsync ⟨BitVec.eq_of_toNat_eq htimer, hp⟩
    · cases hsym
    · cases hsym
  case bit =>
    have hrow : (if v then Instr.txsymOne else .txsymZero) = txsymRow (.bit v) := by cases v <;> rfl
    rw [hrow]
    refine exec_txsymRow_of_not_due fun hdue => ?_
    obtain ⟨htimer, ⟨-, hsym⟩ | ⟨hp, hsym⟩ | ⟨hp, p, hpos, hsym⟩⟩ := dueSymbol_some _ _ hdue
    · cases hsym
    · exact hfirst ⟨BitVec.eq_of_toNat_eq htimer, hp, (TxSymbol.bit.inj hsym).symm⟩
    · exact hnext ⟨p.1, p.2, BitVec.eq_of_toNat_eq htimer, hp, cases_of_nextPosition hpos,
        (TxSymbol.bit.inj hsym).symm⟩

/-! ## No cancellation -/

/-- Of the busy phases SETTLE alone is left for IDLE (R139 to R144). -/
theorem settle_of_leavePhase_idle {t : Tx} (hbusy : t.phase ≠ .idle) (h : (leavePhase t).phase = .idle) :
    t.phase = .settle := by
  cases hp : t.phase with
  | idle => exact absurd hp hbusy
  | pre => simp [leavePhase_pre hp] at h
  | syncA => simp [leavePhase_syncA hp] at h
  | syncI => simp [leavePhase_firstBit hp] at h
  | bitA => simp [leavePhase_bitA hp] at h
  | bitI =>
    cases hnext : nextPosition t with
    | some p => simp [leavePhase_bitI_next hp hnext, enterBit] at h
    | none => simp [leavePhase_bitI_last hp hnext] at h
  | settle => rfl

@[simp] theorem symbolSent_buf (t : Tx) : (symbolSent t).buf = t.buf := by
  simp [symbolSent]

@[simp] theorem symbolSent_len (t : Tx) : (symbolSent t).len = t.len := by
  simp [symbolSent]

theorem symbolSent_phase_ne_idle {t : Tx} {sym : TxSymbol} (hdue : dueSymbol t = some sym) :
    (symbolSent t).phase ≠ .idle := by
  obtain ⟨hactive, -⟩ := leavePhase_of_due hdue
  obtain ⟨hdelimiter, -⟩ := leavePhase_of_active hactive
  exact ne_idle_of_delimiter hdelimiter

/-- The command in progress: its bytes and its length are kept. -/
def SameCommand (s t : State) : Prop :=
  t.tx.buf = s.tx.buf ∧ t.tx.len = s.tx.len

/-- A TICK of a busy block keeps the command, and makes the block idle only where it ends SETTLE, with Done. -/
theorem tickCycle_keeps_command {s : State} (hbusy : s.tx.phase ≠ .idle) :
    SameCommand s (tickCycle s) ∧
      ((tickCycle s).tx.phase = .idle → s.tx.phase = .settle ∧ (tickCycle s).out.txDone = true) := by
  rcases tickCycle_cases s with ⟨hidle, _⟩ | ⟨_, _, heq⟩ | ⟨_, _, heq⟩
  · exact absurd hidle hbusy
  · rw [heq]
    exact ⟨⟨rfl, rfl⟩, fun hidle => absurd hidle hbusy⟩
  · rw [heq]
    refine ⟨⟨leavePhase_buf _, leavePhase_len _⟩, fun hidle => ?_⟩
    have hsettle := settle_of_leavePhase_idle hbusy hidle
    exact ⟨hsettle, by simp [hsettle]⟩

/-- A sent-symbol row keeps the command and leaves the block busy. -/
theorem sendSymbol_keeps_command {s : State} (sym : TxSymbol) (hbusy : s.tx.phase ≠ .idle) :
    SameCommand s (sendSymbol sym s) ∧ (sendSymbol sym s).tx.phase ≠ .idle := by
  rcases sendSymbol_cases sym s with ⟨hdue, heq⟩ | ⟨_, heq⟩ <;> rw [heq]
  · exact ⟨⟨symbolSent_buf _, symbolSent_len _⟩, symbolSent_phase_ne_idle hdue⟩
  · exact ⟨⟨rfl, rfl⟩, hbusy⟩

theorem callStart_tx_of_busy {s : State} (o : Option StartOperands) (hbusy : s.tx.phase ≠ .idle) :
    (callStart o s).tx = s.tx := by
  rcases callStart_cases o s with ⟨ops, _, heq⟩ | ⟨_, heq⟩
  · rw [heq, startCycle_of_busy ops hbusy, quiet_tx]
  · rw [heq]

theorem tx_of_commandChannel {i : Instr} {s t : State} (hbusy : s.tx.phase ≠ .idle)
    (hc : commandChannel (channelOf i)) (hexec : exec i s = .next t) : t.tx = s.tx := by
  obtain ⟨o, hcall⟩ := exec_of_commandChannel hc s
  exact exec_next_unique hexec hcall ▸ callStart_tx_of_busy o hbusy

/-- In a busy block the sent-symbol rows alone, beside RESET and TICK, reach the TX registers (R148, R151, R212). -/
theorem tx_of_exec_busy {i : Instr} {s t : State} (hbusy : s.tx.phase ≠ .idle) (hreset : i ≠ .reset)
    (htick : i ≠ .tick) (hexec : exec i s = .next t) : t.tx = s.tx ∨ ∃ sym, t = sendSymbol sym s := by
  obtain ⟨hrx, -⟩ := rxAndTxAreDisjoint i s t hexec
  cases hc : channelOf i with
  | rxPulse => exact .inl (hrx (.inl hc))
  | rxFrame => exact .inl (hrx (.inr (.inl hc)))
  | txPulse =>
    obtain ⟨sym, hsend⟩ := exec_of_txPulse hc s
    exact .inr ⟨sym, exec_next_unique hexec hsend⟩
  | txCommand => exact .inl (tx_of_commandChannel hbusy (.inl hc) hexec)
  | sendCommand => exact .inl (tx_of_commandChannel hbusy (.inr (.inl hc)) hexec)
  | playDisc => exact .inl (tx_of_commandChannel hbusy (.inr (.inr (.inl hc))) hexec)
  | named => exact .inl (tx_of_commandChannel hbusy (.inr (.inr (.inr hc))) hexec)
  | operation =>
    obtain ⟨r, hresult⟩ := exec_of_operation hc s
    exact .inl (exec_next_unique hexec hresult ▸ rfl)
  | event =>
    cases i with
    | reset => exact absurd rfl hreset
    | tick => exact absurd rfl htick
    | sample d => exact .inl (hrx (.inr (.inr (.inr ⟨d, rfl⟩))))
    | frameEnd => exact .inl (hrx (.inr (.inr (.inl rfl))))
    | start np b0 b1 b2 b3 =>
      exact .inl (exec_next_unique hexec (exec_start np b0 b1 b2 b3 s) ▸ callStart_tx_of_busy (some _) hbusy)
    | _ => simp [channelOf] at hc

/-- Settles O51: a TICK ends the command only out of SETTLE, and no other instruction ends it. -/
theorem noCancellation : Obligations.NoCancellation := by
  intro i s t hbusy hreset hexec
  by_cases htick : i = .tick
  · subst htick
    obtain rfl := exec_next_unique hexec (exec_tick s)
    obtain ⟨⟨hbuf, hlen⟩, hend⟩ := tickCycle_keeps_command hbusy
    exact ⟨hbuf, hlen, fun hidle => ⟨rfl, hend hidle⟩⟩
  · rcases tx_of_exec_busy hbusy hreset htick hexec with htx | ⟨sym, rfl⟩
    · exact ⟨by rw [htx], by rw [htx], fun hidle => absurd (htx ▸ hidle) hbusy⟩
    · obtain ⟨⟨hbuf, hlen⟩, hstill⟩ := sendSymbol_keeps_command sym hbusy
      exact ⟨hbuf, hlen, fun hidle => absurd hidle hstill⟩

/-! ## The segments of a command -/

/-- The segments of a list of bits, each pulse with its delimiter (R61, R146). -/
def bitSegments (bits : List Bool) : List Segment :=
  bits.flatMap fun v => [(true, bitActive v), (false, Config.tIdle)]

@[simp] theorem bitSegments_cons (v : Bool) (bits : List Bool) :
    bitSegments (v :: bits) = (true, bitActive v) :: (false, Config.tIdle) :: bitSegments bits := rfl

theorem serialize_eq (bytes : List Byte) :
    serialize bytes = (false, Config.tPre) :: (true, Config.tSyncA) :: (false, Config.tIdle) ::
      (bytes.flatMap (fun b => bitSegments (byteBits b)) ++ [(false, Config.tSettle)]) := rfl

/-- The microseconds a list of segments takes. -/
def totalTime (segs : List Segment) : Nat :=
  (segs.map fun seg => seg.2).sum

@[simp] theorem totalTime_nil : totalTime [] = 0 := rfl

@[simp] theorem totalTime_cons (seg : Segment) (segs : List Segment) :
    totalTime (seg :: segs) = seg.2 + totalTime segs := rfl

@[simp] theorem totalTime_append (segs segs' : List Segment) :
    totalTime (segs ++ segs') = totalTime segs + totalTime segs' := by
  simp [totalTime]

theorem length_bitSegments (bits : List Bool) : (bitSegments bits).length = 2 * bits.length := by
  simp [bitSegments, List.length_flatMap, Nat.mul_comm]

/-- A zero bit takes 1200 microseconds with its delimiter, a one bit 600 more (R61). -/
theorem totalTime_bitSegments (bits : List Bool) :
    totalTime (bitSegments bits) = 1200 * bits.length + 600 * (bits.map fun v => if v then 1 else 0).sum := by
  induction bits with
  | nil => rfl
  | cons v bits ih =>
    rw [bitSegments_cons, totalTime_cons, totalTime_cons, ih, List.length_cons, List.map_cons, List.sum_cons]
    cases v <;> simp [bitActive, Config.tOneA, Config.tZeroA, Config.tIdle] <;> omega

theorem totalTime_byte (b : Byte) : totalTime (bitSegments (byteBits b)) = 9600 + 600 * popcount b :=
  totalTime_bitSegments (byteBits b)

theorem totalTime_bytes (bytes : List Byte) :
    totalTime (bytes.flatMap fun b => bitSegments (byteBits b)) = (bytes.map fun b => 9600 + 600 * popcount b).sum := by
  induction bytes with
  | nil => rfl
  | cons b bytes ih => rw [List.flatMap_cons, totalTime_append, ih, totalTime_byte, List.map_cons, List.sum_cons]

theorem totalTime_serialize (bytes : List Byte) : totalTime (serialize bytes) = commandTime bytes := by
  rw [serialize_eq]
  simp only [totalTime_cons, totalTime_append, totalTime_bytes, totalTime_nil, commandTime, Config.tPre,
    Config.tSyncA, Config.tIdle, Config.tSettle]
  omega

theorem serialize_length (bytes : List Byte) : (serialize bytes).length = 4 + 16 * bytes.length := by
  have hbytes : (bytes.flatMap fun b => bitSegments (byteBits b)).length = 16 * bytes.length := by
    simp [List.length_flatMap, length_bitSegments, byteBits, Nat.mul_comm]
  rw [serialize_eq]
  simp only [List.length_cons, List.length_append, hbytes, List.length_nil]
  omega

theorem popcount_le (b : Byte) : popcount b ≤ 8 := by
  have hbit : ∀ n ∈ (byteBits b).map (fun v => if v then 1 else 0), n ≤ 1 := by
    intro n hn
    obtain ⟨v, -, rfl⟩ := List.mem_map.1 hn
    cases v <;> decide
  exact List.sum_le_card_nsmul _ 1 hbit

/-- A byte takes between 9600 microseconds, all its bits 0, and 14400, all its bits 1 (R147). -/
theorem bytesTime_bounds (bytes : List Byte) :
    9600 * bytes.length ≤ (bytes.map fun b => 9600 + 600 * popcount b).sum ∧
      (bytes.map fun b => 9600 + 600 * popcount b).sum ≤ 14400 * bytes.length := by
  induction bytes with
  | nil => exact ⟨le_rfl, le_rfl⟩
  | cons b bytes ih =>
    have hbits := popcount_le b
    obtain ⟨hlow, hhigh⟩ := ih
    rw [List.map_cons, List.sum_cons, List.length_cons]
    omega

/-- Settles O49: the segments add up byte by byte, and a byte's time depends on its count of ones. -/
theorem commandDuration : Obligations.CommandDuration := by
  refine fun bytes => ⟨totalTime_serialize bytes, fun hmin hmax => ?_⟩
  obtain ⟨hlow, hhigh⟩ := bytesTime_bounds bytes
  rw [commandTime]
  omega

/-! ## The phases drive the segments -/

/-- From TX registers `t` that have just entered a phase, the phases up to IDLE drive exactly these segments: each
phase has the level of its segment and its timer shows the segment's length. -/
def Drives (t : Tx) : List Segment → Prop
  | [] => t.phase = .idle
  | (level, n) :: rest =>
    t.phase ≠ .idle ∧ driveOf t.phase = level ∧ t.timer.toNat = n ∧ 0 < n ∧ Drives (leavePhase t) rest

/-- A phase that another segment follows is left for a busy phase, so it is not SETTLE. -/
theorem ne_settle_of_drives {t : Tx} {seg : Segment} {rest : List Segment} (h : Drives (leavePhase t) (seg :: rest)) :
    t.phase ≠ .settle := by
  obtain ⟨hbusy, -⟩ := h
  intro hp
  simp [leavePhase_settle hp] at hbusy

/-- The waveform: in the TICK interval `k + 1` the block is busy and drives the level of the segment there (R146). -/
theorem runTicks_drives {t : Tx} {segs : List Segment} (s : State) (h : Drives t segs) {k : Nat}
    (hk : k < totalTime segs) :
    (runTicks k ((quiet s).setTx t)).tx.phase ≠ .idle ∧
      driveOf (runTicks k ((quiet s).setTx t)).tx.phase = levelAt segs (k + 1) := by
  induction segs generalizing t k with
  | nil => simp at hk
  | cons seg rest ih =>
    obtain ⟨level, n⟩ := seg
    obtain ⟨hbusy, hlevel, htimer, hpos, hrest⟩ := h
    rw [totalTime_cons] at hk
    by_cases hin : k < n
    · rw [runTicks_countdown k hbusy (by omega), levelAt, if_pos (by omega)]
      exact ⟨hbusy, hlevel⟩
    · obtain ⟨j, rfl⟩ := Nat.exists_eq_add_of_le (Nat.le_of_not_lt hin)
      cases rest with
      | nil => simp at hk
      | cons seg' rest =>
        rw [runTicks_add, runTicks_phase hbusy (ne_settle_of_drives hrest) htimer hpos, levelAt, if_neg (by omega),
          show n + j + 1 - n = j + 1 by omega]
        exact ih hrest (by simpa using hk)

/-- The TICKs of a whole SETTLE end in IDLE with Done (R144). -/
theorem runTicks_settle {s : State} {t : Tx} {n : Nat} (hp : t.phase = .settle) (htimer : t.timer.toNat = n)
    (hpos : 0 < n) :
    (runTicks n ((quiet s).setTx t)).tx.phase = .idle ∧ (runTicks n ((quiet s).setTx t)).out.txDone = true := by
  obtain ⟨m, rfl⟩ := Nat.exists_eq_succ_of_ne_zero hpos.ne'
  have hbusy : t.phase ≠ .idle := by simp [hp]
  have hlast : t.timer - BitVec.ofNat 13 m = 1 := by bv_omega
  have htick := exec_tick_leave_settle (s := (quiet s).setTx { t with timer := t.timer - BitVec.ofNat 13 m })
    hp hlast rfl
  rw [Nat.succ_eq_add_one, runTicks_add, runTicks_countdown m hbusy (by omega)]
  change (tickCycle _).tx.phase = .idle ∧ (tickCycle _).out.txDone = true
  rw [exec_next_unique (exec_tick _) htick]
  exact ⟨by simp [leavePhase_settle, hp], rfl⟩

/-- After the time of all segments the block is idle, and Done pulses (R146). -/
theorem runTicks_drives_end {t : Tx} {segs : List Segment} (s : State) (h : Drives t segs) (hbusy : t.phase ≠ .idle) :
    (runTicks (totalTime segs) ((quiet s).setTx t)).tx.phase = .idle ∧
      (runTicks (totalTime segs) ((quiet s).setTx t)).out.txDone = true := by
  induction segs generalizing t with
  | nil => exact absurd h hbusy
  | cons seg rest ih =>
    obtain ⟨level, n⟩ := seg
    obtain ⟨-, -, htimer, hpos, hrest⟩ := h
    cases rest with
    | nil => exact runTicks_settle (settle_of_leavePhase_idle hbusy hrest) htimer hpos
    | cons seg' rest =>
      have ⟨hnext, _⟩ := hrest
      rw [totalTime_cons, runTicks_add, runTicks_phase hbusy (ne_settle_of_drives hrest) htimer hpos]
      exact ih hrest hnext

/-! ## The phases of a command -/

/-- The delimiter of the bit at an index (R142). -/
def delimiterOf (t : Tx) (byte : BitVec 2) (bit : BitVec 3) : Tx :=
  leavePhase (enterBit t byte bit)

theorem delimiterOf_eq (t : Tx) (byte : BitVec 2) (bit : BitVec 3) :
    delimiterOf t byte bit =
      { t with phase := .bitI, timer := BitVec.ofNat 13 Config.tIdle, byte := byte, bit := bit } :=
  leavePhase_bitA rfl

/-- A delimiter that a bit follows is left for that bit (R143). -/
theorem leavePhase_delimiterOf_next {t : Tx} {byte : BitVec 2} {bit : BitVec 3} {p : BitVec 2 × BitVec 3}
    (h : nextPosition (delimiterOf t byte bit) = some p) :
    leavePhase (delimiterOf t byte bit) = enterBit t p.1 p.2 := by
  rw [leavePhase_bitI_next (by rw [delimiterOf_eq]) h, delimiterOf_eq]
  rfl

/-- A bit and its delimiter drive the two segments of the bit (R61). -/
theorem drives_bit {t : Tx} {byte : BitVec 2} {bit : BitVec 3} {rest : List Segment}
    (h : Drives (leavePhase (delimiterOf t byte bit)) rest) :
    Drives (enterBit t byte bit) ((true, bitActive (txBitAt t byte bit)) :: (false, Config.tIdle) :: rest) := by
  have hpos : 0 < bitActive (txBitAt t byte bit) := by
    rcases bitActive_cases (txBitAt t byte bit) with htime | htime <;> omega
  refine ⟨nofun, rfl, bitActive_timer _, hpos, ?_⟩
  change Drives (delimiterOf t byte bit) _
  refine ⟨?_, ?_, ?_, by decide, h⟩ <;> rw [delimiterOf_eq]
  · exact nofun
  · rfl
  · rfl

/-- From bit `n` of a byte on, the bits down to bit 0 drive their segments (R143: most significant first). -/
theorem drives_bits {t : Tx} {byte : BitVec 2} {rest : List Segment} (n : Nat) (hn : n ≤ 7)
    (h : Drives (leavePhase (delimiterOf t byte 0)) rest) :
    Drives (enterBit t byte (BitVec.ofNat 3 n))
      (bitSegments ((List.range (n + 1)).reverse.map fun k => txBitAt t byte (BitVec.ofNat 3 k)) ++ rest) := by
  induction n with
  | zero => exact drives_bit h
  | succ n ih =>
    have hbit : 0 < (BitVec.ofNat 3 (n + 1)).toNat := by bv_omega
    have hpred : BitVec.ofNat 3 (n + 1) - 1 = BitVec.ofNat 3 n := by bv_omega
    have hnext : nextPosition (delimiterOf t byte (BitVec.ofNat 3 (n + 1))) = some (byte, BitVec.ofNat 3 n) := by
      rw [delimiterOf_eq]
      exact nextPosition_of_cases (.inl ⟨hbit, rfl, hpred.symm⟩)
    rw [List.range_succ, List.reverse_append, List.reverse_singleton, List.singleton_append, List.map_cons,
      bitSegments_cons]
    refine drives_bit ?_
    rw [leavePhase_delimiterOf_next hnext]
    exact ih (by omega)

theorem drives_byte {t : Tx} {byte : BitVec 2} {rest : List Segment}
    (h : Drives (leavePhase (delimiterOf t byte 0)) rest) :
    Drives (enterBit t byte 7) (bitSegments (byteBits (t.buf[byte.toNat]'byte.isLt)) ++ rest) :=
  drives_bits 7 le_rfl h

/-- The bytes that are still to be sent, from the byte at an index on. -/
def bytesFrom (t : Tx) (byte : BitVec 2) : List Byte :=
  (t.buf.toList.take t.len.toNat).drop byte.toNat

theorem bytesFrom_cons {t : Tx} {byte : BitVec 2} {b : Byte} {bs : List Byte} (hlen : t.len.toNat ≤ 4)
    (h : bytesFrom t byte = b :: bs) :
    t.buf[byte.toNat]'byte.isLt = b ∧ byte.toNat + bs.length + 1 = t.len.toNat ∧
      (t.buf.toList.take t.len.toNat).drop (byte.toNat + 1) = bs := by
  have hlength := congrArg List.length h
  simp only [bytesFrom, List.length_drop, List.length_take, Vector.length_toList, List.length_cons] at hlength
  have hlt : byte.toNat < (t.buf.toList.take t.len.toNat).length := by
    simp only [List.length_take, Vector.length_toList]
    omega
  rw [bytesFrom, List.drop_eq_getElem_cons hlt] at h
  obtain ⟨hhead, htail⟩ := List.cons.inj h
  exact ⟨by simpa using hhead, by omega, htail⟩

/-- The bytes still to be sent and the settle delay drive their segments (R143). -/
theorem drives_bytesFrom {t : Tx} {byte : BitVec 2} {b : Byte} {bs : List Byte} (hlen : t.len.toNat ≤ 4)
    (h : bytesFrom t byte = b :: bs) :
    Drives (enterBit t byte 7)
      ((b :: bs).flatMap (fun b => bitSegments (byteBits b)) ++ [(false, Config.tSettle)]) := by
  induction bs generalizing byte b with
  | nil =>
    obtain ⟨rfl, hlast, -⟩ := bytesFrom_cons hlen h
    have hnext : nextPosition (delimiterOf t byte 0) = none := by
      rw [List.length_nil] at hlast
      rw [delimiterOf_eq, nextPosition, if_neg (by simp), if_neg (by simp only; omega)]
    rw [List.flatMap_cons, List.append_assoc]
    refine drives_byte ?_
    rw [leavePhase_bitI_last (by rw [delimiterOf_eq]) hnext]
    exact ⟨nofun, rfl, rfl, by decide, rfl⟩
  | cons b' bs ih =>
    obtain ⟨rfl, hmore, hrest⟩ := bytesFrom_cons hlen h
    rw [List.length_cons] at hmore
    have hindex : (byte + 1).toNat = byte.toNat + 1 := by bv_omega
    have hnext : nextPosition (delimiterOf t byte 0) = some (byte + 1, 7) := by
      rw [delimiterOf_eq]
      exact nextPosition_of_cases (.inr ⟨rfl, by simp only; omega, rfl, rfl⟩)
    rw [List.flatMap_cons, List.append_assoc]
    refine drives_byte ?_
    rw [leavePhase_delimiterOf_next hnext]
    exact ih (by rw [bytesFrom, hindex, hrest])

/-- An accepted START drives the segments of `serialize` of the bytes that are sent (R139 to R144, R146). -/
theorem drives_startTx {o : StartOperands} (hnp : o.np ≠ 3) : Drives (startTx o) (serialize (sentBytes o)) := by
  have hlen : (startTx o).len.toNat = 2 + o.np.toNat := startLength_toNat o.np
  have hmax : (startTx o).len.toNat ≤ 4 := by bv_omega
  have hsent : bytesFrom (startTx o) 0 = sentBytes o := by
    rw [bytesFrom, hlen]
    rfl
  obtain ⟨b, bs, hcons⟩ : ∃ b bs, sentBytes o = b :: bs :=
    ⟨o.b0, _, by rw [sentBytes, Nat.add_comm, List.take_succ_cons]⟩
  rw [serialize_eq, hcons]
  exact ⟨nofun, rfl, rfl, by decide, nofun, rfl, rfl, by decide, nofun, rfl, rfl, by decide,
    drives_bytesFrom hmax (hsent.trans hcons)⟩

/-- Settles O48: the phases from PRE on drive the segments of `serialize`, which add up to T(bytes). -/
theorem waveformAgrees : Obligations.WaveformAgrees := by
  intro s t np b0 b1 b2 b3 bytes hidle hnp hexec hbytes
  obtain rfl := exec_next_unique hexec (exec_start_accepted b0 b1 b2 b3 hidle hnp)
  have hdrives : Drives (startTx ⟨np, b0, b1, b2, b3⟩) (serialize bytes) := hbytes ▸ drives_startTx hnp
  refine ⟨serialize_length bytes, fun k hpos hk => ?_, ?_⟩
  · rw [runAll_replicate_tick]
    obtain ⟨k, rfl⟩ := Nat.exists_eq_succ_of_ne_zero (Nat.one_le_iff_ne_zero.1 hpos)
    exact ⟨_, rfl, runTicks_drives s hdrives (by rw [totalTime_serialize]; omega)⟩
  · rw [runAll_replicate_tick, ← totalTime_serialize]
    exact ⟨_, rfl, runTicks_drives_end s hdrives nofun⟩

end Sys2Proof.Proofs.Serializer
end

section
/-! The command builder (44_command_builder.md): the operands a call of playDisc has, the command each playDisc row and
each named command starts in an idle block, and that the received index of a disc maps back to it
(45_adjacent_decoders.md). -/

namespace Sys2Proof.Proofs.CommandBuilder

open Sys2Proof.Machine Sys2Proof.Safety Sys2Proof.Proofs.RegisterState Sys2Proof.Proofs.Encoding

/-! ## playDisc -/

theorem devByte_isSome_iff (player disc : Nat) : (devByte player disc).isSome = true ↔ player = 1 ∨ player = 2 := by
  unfold devByte
  split <;> simp_all

/-- The device codes of discs 1 to 200 (R158). -/
theorem devByte_of_low {disc : Nat} (h : disc ≤ 200) : devByte 1 disc = some 0x90 ∧ devByte 2 disc = some 0x92 := by
  rw [devByte, devByte, if_pos h, if_pos h]
  exact ⟨rfl, rfl⟩

/-- The device codes of discs 201 to 300 (R158). -/
theorem devByte_of_high {disc : Nat} (h : 201 ≤ disc) : devByte 1 disc = some 0x93 ∧ devByte 2 disc = some 0x95 := by
  have hnot : ¬ disc ≤ 200 := Nat.not_le.2 h
  rw [devByte, devByte, if_neg hnot, if_neg hnot]
  exact ⟨rfl, rfl⟩

/-- The operands of a playDisc row in its range (R157 to R160). -/
theorem playDiscIn_eq_some {lo hi player disc track : Nat} {dev : Byte} (hdev : devByte player disc = some dev)
    (hlo : 1 ≤ lo) (hhi : hi ≤ 300) (hlow : lo ≤ disc) (hhigh : disc ≤ hi) (htrack : track ≤ 99) :
    playDiscIn lo hi player disc track = some ⟨2, dev, Config.cmdPlayDisc, discByte disc, bcd track⟩ := by
  rw [playDiscIn, if_pos ⟨hlow, hhigh⟩, playDisc, if_pos ⟨hlo.trans hlow, hhigh.trans hhi, htrack⟩, hdev,
    Option.map_some]

theorem callStart_playDiscIn_of_idle {s : State} {lo hi player disc track : Nat} {dev : Byte}
    (hidle : s.tx.phase = .idle) (hdev : devByte player disc = some dev) (hlo : 1 ≤ lo) (hhi : hi ≤ 300)
    (hlow : lo ≤ disc) (hhigh : disc ≤ hi) (htrack : track ≤ 99) :
    callStart (playDiscIn lo hi player disc track) s =
      { quiet s with tx := startedTx 4 dev Config.cmdPlayDisc (discByte disc) (bcd track) } := by
  rw [playDiscIn_eq_some hdev hlo hhi hlow hhigh htrack]
  exact startCycle_accepted hidle (show (2 : BitVec 2) ≠ 3 by decide)

/-- Settles O36: in its range a row's operands are those of the call, whose START an idle block accepts. -/
theorem playDiscStarts : Obligations.PlayDiscStarts := by
  intro s disc track hidle htrack
  refine ⟨discByte disc, bcd track, bcd_toNat htrack, fun _ => discByte_toNat_of_le_99, fun hlow hhigh => ?discByte,
    discByte_toNat_of_le_300, fun hlow hhigh => ?lowRows, fun hlow hhigh => ?highRows⟩
  case discByte =>
    rw [discByte_toNat_of_le_200 hlow hhigh]
    omega
  case lowRows =>
    obtain ⟨hplayer1, hplayer2⟩ := devByte_of_low hhigh
    rw [exec_playDiscP1Low, exec_playDiscP2Low,
      callStart_playDiscIn_of_idle hidle hplayer1 le_rfl (by decide) hlow hhigh htrack,
      callStart_playDiscIn_of_idle hidle hplayer2 le_rfl (by decide) hlow hhigh htrack]
    exact ⟨rfl, rfl⟩
  case highRows =>
    obtain ⟨hplayer1, hplayer2⟩ := devByte_of_high hlow
    rw [exec_playDiscP1High, exec_playDiscP2High,
      callStart_playDiscIn_of_idle hidle hplayer1 (by decide) le_rfl hlow hhigh htrack,
      callStart_playDiscIn_of_idle hidle hplayer2 (by decide) le_rfl hlow hhigh htrack]
    exact ⟨rfl, rfl⟩

/-- A call has operands exactly where R161 does not refuse it. -/
theorem playDisc_isSome_iff (player disc track : Nat) : (playDisc player disc track).isSome = true ↔
    (player = 1 ∨ player = 2) ∧ 1 ≤ disc ∧ disc ≤ 300 ∧ track ≤ 99 := by
  unfold playDisc
  split
  · next hrange => simp only [Option.isSome_map, devByte_isSome_iff, hrange, and_self, and_true]
  · next hrange => simp only [Option.isSome_none, Bool.false_eq_true, hrange, and_false]

/-- A playDisc row of discs in 1 to 300 changes nothing where R161 refuses the call. -/
theorem callStart_playDiscIn_of_refused {lo hi disc track : Nat} (player : Nat) (s : State) (hlo : 1 ≤ lo)
    (hhi : hi ≤ 300) (h : disc = 0 ∨ 300 < disc ∨ 99 < track) :
    callStart (playDiscIn lo hi player disc track) s = s := by
  rw [playDiscIn_eq_none player (by omega), callStart]

/-- Settles O37: the refused call has no operands, and without operands a row issues no START. -/
theorem playDiscTurnedAway : Obligations.PlayDiscTurnedAway := by
  refine ⟨playDisc_isSome_iff, fun s disc track haway => ?_⟩
  have hlow (player : Nat) :=
    callStart_playDiscIn_of_refused (lo := 1) (hi := 200) player s (by decide) (by decide) haway
  have hhigh (player : Nat) :=
    callStart_playDiscIn_of_refused (lo := 201) (hi := 300) player s (by decide) (by decide) haway
  rw [exec_playDiscP1Low, exec_playDiscP1High, exec_playDiscP2Low, exec_playDiscP2High, hlow, hhigh, hlow, hhigh]
  exact ⟨rfl, rfl, rfl, rfl⟩

/-! ## The named commands -/

theorem callStart_namedCommand {s : State} (cmd : Byte) (hidle : s.tx.phase = .idle) :
    callStart (some (namedCommand cmd)) s = { quiet s with tx := startedTx 2 Config.devDefault cmd 0 0 } :=
  startCycle_accepted hidle (o := namedCommand cmd) (show (0 : BitVec 2) ≠ 3 by decide)

/-- Settles O35: each name is the call of its own command byte. -/
theorem namedCommandsStart : Obligations.NamedCommandsStart := by
  intro s hidle
  have hstart (cmd : Byte) : (.next (callStart (some (namedCommand cmd)) s) : Host.Outcome State Fault Refusal) =
      .next { quiet s with tx := startedTx 2 Config.devDefault cmd 0 0 } := by
    rw [callStart_namedCommand cmd hidle]
  exact ⟨hstart _, hstart _, hstart _, hstart _, hstart _, hstart _, hstart _⟩

/-! ## Received indices -/

/-- The index of a number is its packed BCD (R73, R180). -/
theorem bcd_toNat_eq_idx99 {n : Nat} (h : n ≤ 99) : (bcd n).toNat = idx99 n := by
  rw [bcd_toNat h, idx99]
  omega

theorem idx99_lt_idx99 {m n : Nat} (h : m < n) : idx99 m < idx99 n := by
  unfold idx99
  omega

/-- The search for the index of a number stops at that number, as smaller ones have smaller indices. -/
theorem num99_idx99 {n : Nat} (hpos : 1 ≤ n) (hmax : n ≤ 99) : num99 (idx99 n) = some n := by
  rw [num99, List.find?_range'_eq_some]
  refine ⟨beq_self_eq_true _, List.mem_range'_1.2 ⟨hpos, by omega⟩, fun m _ hlt => ?_⟩
  simpa using (idx99_lt_idx99 hlt).ne

/-- The indices of 1 to 99 end at 153 (R180). -/
theorem num99_eq_none {idx : Nat} (h : 154 ≤ idx) : num99 idx = none := by
  rw [num99, List.find?_eq_none]
  intro n hn
  have hmax := (List.mem_range'_1.1 hn).2
  have hlt : idx99 n < idx := by
    unfold idx99
    omega
  simpa using hlt.ne

theorem discLow_discByte {n : Nat} (hpos : 1 ≤ n) (hhigh : n ≤ 200) : discLow (discByte n).toNat = some n := by
  unfold discLow
  rcases Nat.lt_or_ge n 100 with hbcd | hbcd
  · have hmax : n ≤ 99 := Nat.le_of_lt_succ hbcd
    rw [discByte, if_pos hmax, bcd_toNat_eq_idx99 hmax, num99_idx99 hpos hmax]
  · rw [discByte_toNat_of_le_200 hbcd hhigh, num99_eq_none (by omega)]
    simp [hhigh, hbcd]

theorem discHigh_discByte {n : Nat} (hlow : 201 ≤ n) (hhigh : n ≤ 300) : discHigh (discByte n).toNat = some n := by
  rw [discByte_toNat_of_le_300 hlow hhigh, discHigh, if_pos (by omega), Nat.sub_add_cancel (by omega)]

/-- Settles O31: each range's formula undoes the disc byte, and the search undoes the index of a track. -/
theorem discMapping : Obligations.DiscMapping :=
  ⟨fun n hpos => discLow_discByte hpos (Nat.le_of_lt_succ n.isLt),
    fun n hlow => discHigh_discByte hlow (Nat.le_of_lt_succ n.isLt),
    fun n hpos => ⟨num99_idx99 hpos (Nat.le_of_lt_succ n.isLt), bcd_toNat_eq_idx99 (Nat.le_of_lt_succ n.isLt)⟩⟩

end Sys2Proof.Proofs.CommandBuilder
end

section
/-! The adjacent software (45_adjacent_decoders.md): the numeral code and its search, and what each FRAME row's delivery
leaves of the decoders' records. -/

namespace Sys2Proof.Proofs.AdjacentDecoders

open Sys2Proof.Machine Sys2Proof.Safety Sys2Proof.Proofs.RegisterState Sys2Proof.Proofs.Encoding
  Sys2Proof.Proofs.Dispatcher

/-! ## The numeral code -/

/-- Fuel past the number itself is not used. -/
theorem encodeIndexFuel_eq_of_le {f g n : Nat} (hf : n ≤ f) (hg : n ≤ g) : encodeIndexFuel f n = encodeIndexFuel g n := by
  induction f generalizing g n with
  | zero => cases g <;> simp [encodeIndexFuel, Nat.le_zero.1 hf]
  | succ f ih =>
    cases g with
    | zero => simp [encodeIndexFuel, Nat.le_zero.1 hg]
    | succ g => rw [encodeIndexFuel, encodeIndexFuel, ih (g := g) (by omega) (by omega)]

/-- Base 4 with the binary digits of the number (R178). -/
theorem encodeIndex_eq (n : Nat) : encodeIndex n = n % 2 + 4 * encodeIndex (n / 2) := by
  cases n with
  | zero => rfl
  | succ n =>
    rw [encodeIndex, encodeIndexFuel, if_neg (Nat.succ_ne_zero n), encodeIndexFuel_eq_of_le (by omega) le_rfl,
      ← encodeIndex]

theorem encodeIndex_testBit (n p : Nat) :
    (encodeIndex n).testBit (2 * p) = n.testBit p ∧ (encodeIndex n).testBit (2 * p + 1) = false := by
  induction p generalizing n with
  | zero =>
    have heven : encodeIndex n % 2 = n % 2 := by rw [encodeIndex_eq]; omega
    have hodd : encodeIndex n / 2 % 2 = 0 := by rw [encodeIndex_eq]; omega
    simp [Nat.testBit_succ, Nat.testBit_zero, heven, hodd]
  | succ p ih =>
    have hshift : encodeIndex n / 2 / 2 = encodeIndex (n / 2) := by rw [encodeIndex_eq]; omega
    simpa [Nat.mul_succ, Nat.testBit_succ, hshift] using ih (n / 2)

theorem encodeIndex_injective : Function.Injective encodeIndex := by
  intro m n h
  refine Nat.eq_of_testBit_eq fun p => ?_
  rw [← (encodeIndex_testBit m p).1, h, (encodeIndex_testBit n p).1]

/-- The search finds the one number in its range with the code, as no two numbers share a code (R179). -/
theorem decodeIndexFromCode_eq_some_iff (code bound n : Nat) :
    decodeIndexFromCode code bound = some n ↔ 1 ≤ n ∧ n ≤ bound ∧ encodeIndex n = code := by
  rw [decodeIndexFromCode, List.find?_range'_eq_some, List.mem_range'_1, beq_iff_eq]
  constructor
  · rintro ⟨hcode, ⟨hpos, hlt⟩, -⟩
    exact ⟨hpos, by omega, hcode⟩
  · rintro ⟨hpos, hmax, rfl⟩
    refine ⟨rfl, ⟨hpos, by omega⟩, fun m _ hlt => ?_⟩
    simpa using encodeIndex_injective.ne hlt.ne

/-- The digits are the numbers 0 to 9 (R191). -/
theorem decodeDigit_eq_some_iff (b : Byte) (d : Nat) : decodeDigit b = some d ↔ d ≤ 9 ∧ encodeIndex d = b.toNat := by
  rw [decodeDigit, List.find?_range_eq_some, List.mem_range, beq_iff_eq]
  constructor
  · rintro ⟨hcode, hlt, -⟩
    exact ⟨Nat.le_of_lt_succ hlt, hcode⟩
  · rintro ⟨hmax, hcode⟩
    refine ⟨hcode, Nat.lt_succ_of_le hmax, fun m hlt => ?_⟩
    simpa [← hcode] using encodeIndex_injective.ne hlt.ne

/-- Settles O30: the bits by induction on the position, and both searches by the injectivity the bits give. -/
theorem numeralRoundTrip : Obligations.NumeralRoundTrip := by
  refine ⟨encodeIndex_testBit, fun m n h => encodeIndex_injective h, fun n bound hpos hmax => ?_,
    fun code bound hnone => ?_, decodeDigit_eq_some_iff⟩
  · exact (decodeIndexFromCode_eq_some_iff _ bound n).2 ⟨hpos, hmax, rfl⟩
  · refine Option.eq_none_iff_forall_ne_some.2 fun n hsome => ?_
    obtain ⟨hpos, hmax, hcode⟩ := (decodeIndexFromCode_eq_some_iff code bound n).1 hsome
    exact hnone n hpos hmax hcode

/-! ## A delivery runs the decoders -/

/-- Where the end of a sequence raises `f_valid`, the decoders have run on the frame and the vector then held (R175). -/
theorem endFrame_adj_of_fValid {s : State} (hlow : s.out.fValid = false) (hvalid : (endFrame s).out.fValid = true) :
    (endFrame s).adj = runDecoders s.draws (heldFrame (endFrame s).out) (endFrame s).out.fMatch s.adj := by
  rcases endFrame_cases s with ⟨-, heq⟩ | ⟨-, heq⟩
  · have hheld : heldFrame (deliverFrame s).out = frameOf s.rx := heldFrame_delivered s.draws s.rx rfl rfl
    rw [heq, hheld]
    rfl
  · have hkeeps : (endFrame s).out.fValid = s.out.fValid := by rw [heq]; rfl
    simp [hkeeps, hlow] at hvalid

/-- A row that delivers runs the decoders on its frame, after the calls of the cycle before have ended (R175). -/
theorem adj_of_delivers {i : Instr} {s : State} {frame : List Byte} {m : BitVec 6} {a : Adjacent}
    (hc : channelOf i = .rxFrame) (hidle : s.tx.phase = .idle) (h : Delivers i s frame m)
    (hrun : runDecoders s.draws frame m (quiet s).adj = a) : ∃ t, exec i s = .next t ∧ t.adj = a := by
  obtain ⟨t, hexec, hvalid, -, rfl, rfl, -⟩ := h
  refine ⟨t, hexec, ?_⟩
  rw [exec_rxFrame_eq_receiveFrame hc, receiveFrame_of_idle _ hidle] at hexec
  cases hexec
  exact (endFrame_adj_of_fValid rfl hvalid).trans hrun

/-! ## Transport -/

/-- Each known code sets its own flag and lowers the two others (R177). -/
theorem transportFlags_of_known (t : TrackStatus) :
    transportFlags 0x00 t = { t with playing := true, paused := false, stopped := false } ∧
    transportFlags 0x04 t = { t with playing := false, paused := true, stopped := false } ∧
    transportFlags 0x01 t = { t with playing := false, paused := false, stopped := true } :=
  ⟨rfl, rfl, rfl⟩

theorem transportFlags_of_unknown {code : Byte} (t : TrackStatus) (hplay : code ≠ 0x00) (hpause : code ≠ 0x04)
    (hstop : code ≠ 0x01) : transportFlags code t = t := by
  rw [transportFlags, if_neg hplay, if_neg hpause, if_neg hstop]

/-- No code writes a field of the record but the three flags and `haveStatus`. -/
theorem decodeTransport_frame (draw : Nat) (frame : List Byte) (a : Adjacent) :
    decodeTransport draw frame a = { a with
      calls := (decodeTransport draw frame a).calls
      status := { a.status with
        playing := (decodeTransport draw frame a).status.playing
        paused := (decodeTransport draw frame a).status.paused
        stopped := (decodeTransport draw frame a).status.stopped
        haveStatus := (decodeTransport draw frame a).status.haveStatus } } := by
  simp only [decodeTransport]
  fun_cases transportFlags (frameByte frame 3) a.status <;> rfl

/-- Settles O27: the decoder of match bit 0 runs alone, and the code's flags are what it writes. -/
theorem transportDecoded : Obligations.TransportDecoded := by
  intro s second code hidle hclean
  obtain ⟨hdelivers, -⟩ := frameRowsDeliver s hidle hclean
  obtain ⟨hrun, -⟩ := runDecoders_oneHot s.draws (transportFrame second code) (quiet s).adj
  obtain ⟨t, hexec, hadj⟩ := adj_of_delivers rfl hidle (hdelivers second code) hrun
  obtain ⟨hcalls, hstatus⟩ : t.adj.calls = [.onTransport code] ∧ t.adj.status =
      { transportFlags code s.adj.status with haveStatus := Config.freeHaveStatus s.draws } := by
    rw [hadj]
    exact ⟨rfl, rfl⟩
  obtain ⟨hplay, hpause, hstop⟩ := transportFlags_of_known s.adj.status
  refine ⟨t, hexec, hcalls, ?play, ?pause, ?stop, fun hnotPlay hnotPause hnotStop => ?unknown, ?frame⟩
  case play =>
    rintro rfl
    rw [hstatus, hplay]
    exact ⟨rfl, rfl, rfl⟩
  case pause =>
    rintro rfl
    rw [hstatus, hpause]
    exact ⟨rfl, rfl, rfl⟩
  case stop =>
    rintro rfl
    rw [hstatus, hstop]
    exact ⟨rfl, rfl, rfl⟩
  case unknown =>
    rw [hstatus, transportFlags_of_unknown s.adj.status hnotPlay hnotPause hnotStop]
    exact ⟨rfl, rfl, rfl⟩
  case frame =>
    rw [hadj]
    exact decodeTransport_frame s.draws (transportFrame second code) (quiet s).adj

/-! ## TrackStatus -/

/-- The four RX device codes: the player, and the range of discs (R184). -/
theorem device_of_known :
    (playerOf 0x40 = 1 ∧ discNumberOf 0x40 = discLow) ∧ (playerOf 0x45 = 1 ∧ discNumberOf 0x45 = discHigh) ∧
    (playerOf 0x44 = 2 ∧ discNumberOf 0x44 = discLow) ∧ (playerOf 0x51 = 2 ∧ discNumberOf 0x51 = discHigh) :=
  ⟨⟨rfl, rfl⟩, ⟨rfl, rfl⟩, ⟨rfl, rfl⟩, rfl, rfl⟩

/-- Any other device is no player and has no discs (R185). -/
theorem device_of_unknown {device : Byte} (h40 : device ≠ 0x40) (h45 : device ≠ 0x45) (h44 : device ≠ 0x44)
    (h51 : device ≠ 0x51) : playerOf device = 0 ∧ discNumberOf device = fun _ => none := by
  constructor
  · rw [playerOf, if_neg (not_or.2 ⟨h40, h45⟩), if_neg (not_or.2 ⟨h44, h51⟩)]
  · funext idx
    rw [discNumberOf, if_neg (not_or.2 ⟨h40, h44⟩), if_neg (not_or.2 ⟨h45, h51⟩)]

section TrackFields

variable {device : Byte} (draw : Nat) (payload : List Byte) (t : TrackStatus)

/-- The codes are the payload's at their positions, the indices are searched up to 300, and the track number is that of
the track index (R181, R186). -/
theorem trackFields_codes :
    let f := trackFields draw (trackStatusFrame device payload) t
    f.discCode = payload.getD Config.discCodePos.hi.val 0 ++ payload.getD Config.discCodePos.lo.val 0 ∧
    f.trackCode = payload.getD Config.trackCodePos.hi.val 0 ++ payload.getD Config.trackCodePos.lo.val 0 ∧
    f.discIndex = decodeIndexFromCode f.discCode.toNat 300 ∧
    f.trackIndex = decodeIndexFromCode f.trackCode.toNat 300 ∧
    f.trackNumber = f.trackIndex.bind num99 :=
  ⟨rfl, rfl, rfl, rfl, rfl⟩

/-- The device byte gives the player and the range that reads the disc index (R184, R185). -/
theorem trackFields_of_device {player : Nat} {range : Nat → Option Nat}
    (h : playerOf device = player ∧ discNumberOf device = range) :
    let f := trackFields draw (trackStatusFrame device payload) t
    f.player = player ∧ f.discNumber = f.discIndex.bind range := by
  obtain ⟨rfl, rfl⟩ := h
  exact ⟨rfl, rfl⟩

/-- A TrackStatus frame leaves the three flags. -/
theorem trackFields_flags (frame : List Byte) :
    (trackFields draw frame t).playing = t.playing ∧ (trackFields draw frame t).paused = t.paused ∧
    (trackFields draw frame t).stopped = t.stopped :=
  ⟨rfl, rfl, rfl⟩

end TrackFields

/-- Settles O28: the decoder of match bit 1 runs alone, and its device byte chooses the player and the range. -/
theorem trackStatusDecoded : Obligations.TrackStatusDecoded := by
  intro s device payload hidle hclean hlen
  obtain ⟨-, hdelivers, -⟩ := frameRowsDeliver s hidle hclean
  obtain ⟨-, hrun, -⟩ := runDecoders_oneHot s.draws (trackStatusFrame device payload) (quiet s).adj
  obtain ⟨t, hexec, hadj⟩ := adj_of_delivers rfl hidle (hdelivers device payload hlen) hrun
  obtain ⟨hstatus, hsignature, hcalls⟩ :
      t.adj.status = trackFields s.draws (trackStatusFrame device payload) s.adj.status ∧
      t.adj.lastSignature = some payload ∧
      t.adj.calls = signatureCalls payload s.adj.lastSignature ++ [.onStatus t.adj.status] := by
    rw [hadj]
    exact ⟨rfl, rfl, rfl⟩
  obtain ⟨hdiscCode, htrackCode, hdiscIndex, htrackIndex, htrackNumber⟩ :=
    trackFields_codes (device := device) s.draws payload s.adj.status
  obtain ⟨hplaying, hpaused, hstopped⟩ :=
    trackFields_flags s.draws s.adj.status (trackStatusFrame device payload)
  obtain ⟨h40, h45, h44, h51⟩ := device_of_known
  have hdevice {player : Nat} {range : Nat → Option Nat} (h : playerOf device = player ∧ discNumberOf device = range) :=
    trackFields_of_device s.draws payload s.adj.status h
  refine ⟨t, hexec, ?_⟩
  rw [hcalls, hstatus]
  refine ⟨hdiscCode, htrackCode, hdiscIndex, htrackIndex, htrackNumber, fun h => hdevice (h ▸ h40),
    fun h => hdevice (h ▸ h45), fun h => hdevice (h ▸ h44), fun h => hdevice (h ▸ h51),
    fun hnot40 hnot45 hnot44 hnot51 => ?unknownDevice, hplaying, hpaused, hstopped, hsignature, rfl⟩
  case unknownDevice =>
    obtain ⟨hplayer, hdisc⟩ := hdevice (device_of_unknown hnot40 hnot45 hnot44 hnot51)
    exact ⟨hplayer, hdisc.trans (Option.bind_fun_none _)⟩

/-! ## The other decoders -/

/-- Settles O29: each shape's own decoder runs alone, and the heartbeat has none. -/
theorem otherDecodersKeepStatus : Obligations.OtherDecodersKeepStatus := by
  intro s hidle hclean
  obtain ⟨-, -, htime, hextended, hheartbeat, hunknown⟩ := frameRowsDeliver s hidle hclean
  refine ⟨fun device payload hlen => ?timeStatus, fun device payload hlen => ?extendedStatus, ?heartbeat,
    fun frame hwf hmax => ?unknown⟩
  case timeStatus =>
    obtain ⟨-, -, hrun, -⟩ := runDecoders_oneHot s.draws (timeStatusFrame device payload) (quiet s).adj
    exact adj_of_delivers rfl hidle (htime device payload hlen) hrun
  case extendedStatus =>
    obtain ⟨-, -, -, hrun, -⟩ := runDecoders_oneHot s.draws (extendedStatusFrame device payload) (quiet s).adj
    exact adj_of_delivers rfl hidle (hextended device payload hlen) hrun
  case heartbeat =>
    obtain ⟨-, -, -, -, hrun, -⟩ := runDecoders_oneHot s.draws heartbeatFrame (quiet s).adj
    exact adj_of_delivers rfl hidle hheartbeat hrun
  case unknown =>
    obtain ⟨-, -, -, -, -, hrun⟩ := runDecoders_oneHot s.draws frame (quiet s).adj
    exact adj_of_delivers rfl hidle (hunknown frame hwf hmax) hrun

end Sys2Proof.Proofs.AdjacentDecoders
end

section
/-! Exceptions (60_exceptions.md): no operation of the block raises an error (R200). A drop and a refused request are
next states too. -/

namespace Sys2Proof.Proofs.Exceptions

open Sys2Proof.Machine Sys2Proof.Proofs.RegisterState

/-- Settles O7: every instruction is one of the shared operations, and each of them gives a state. -/
theorem nothingStopsTheBlock : Obligations.NothingStopsTheBlock := by
  intro i s
  obtain ⟨t, hexec, -⟩ := exec_effect i s
  exact ⟨t, hexec⟩

end Sys2Proof.Proofs.Exceptions
end

section
/-! Reset and hazards (70_reset_and_hazards.md): RESET from every state (R230, R232). -/

namespace Sys2Proof.Proofs.ResetAndHazards

open Sys2Proof.Machine Sys2Proof.Proofs.RegisterState

/-- The ports that follow the phase show an idle block: no drive, not busy, ready for a sample and for a command. -/
theorem outputs_of_idle {s : State} (h : s.tx.phase = .idle) :
    (outputs s).txDrive = false ∧ (outputs s).txBusy = false ∧ (outputs s).sReady = true ∧
      (outputs s).cReady = true := by
  have hdrive : (outputs s).txDrive = false := by simp [outputs, driveOf, h]
  have hbusy : (outputs s).txBusy = false := by simpa [h] using outputs_txBusy_iff s
  exact ⟨hdrive, hbusy, (idle_iff s).2 h, (idle_iff s).2 h⟩

/-- The TX registers after RESET, `tx_buf` apart (R31). -/
theorem resetBlock_tx (s : State) :
    (resetBlock s).tx.phase = .idle ∧ (resetBlock s).tx.timer = 0 ∧ (resetBlock s).tx.len = 0 ∧
      (resetBlock s).tx.byte = 0 ∧ (resetBlock s).tx.bit = 7 :=
  ⟨resetBlock_phase s, rfl, rfl, rfl, rfl⟩

/-- The output registers after RESET, `f_bytes` apart: no strobe, no frame held, no reason (R31). -/
theorem resetBlock_out (s : State) :
    (resetBlock s).out.fValid = false ∧ (resetBlock s).out.rxDrop = false ∧ (resetBlock s).out.txDone = false ∧
      (resetBlock s).out.fLen = 0 ∧ (resetBlock s).out.fMatch = 0 ∧ (resetBlock s).out.rxDropReason = .none :=
  ⟨rfl, rfl, rfl, rfl, rfl, rfl⟩

/-- RESET touches neither the adjacent record nor the environment's stimuli (notes/assumptions/15.md). -/
theorem resetBlock_keeps_environment (s : State) :
    (resetBlock s).adj.status = s.adj.status ∧ (resetBlock s).pending = s.pending :=
  ⟨rfl, rfl⟩

/-- Settles O56: RESET writes the table's registers whatever the state is, and the idle phase gives the ports. -/
theorem resetEffect : Obligations.ResetEffect := by
  intro s
  obtain ⟨hphase, htimer, hlen, hbyte, hbit⟩ := resetBlock_tx s
  obtain ⟨hvalid, hdrop, hdone, hframeLen, hmatch, hreason⟩ := resetBlock_out s
  obtain ⟨hdrive, hbusy, hsReady, hcReady⟩ := outputs_of_idle hphase
  obtain ⟨hstatus, hpending⟩ := resetBlock_keeps_environment s
  exact ⟨resetBlock s, exec_reset s, resetBlock_clean s, hphase, htimer, hlen, hbyte, hbit, hvalid, hdrop, hdone,
    hframeLen, hmatch, hreason, hdrive, hbusy, hsReady, hcReady, hstatus, hpending⟩

end Sys2Proof.Proofs.ResetAndHazards
end
